-- ==== Sys2Proof/Word.lean ====
section
/-! DEFINITION. The bit-vector types of QRSE (00_scope.md R10, R11). -/

namespace Sys2Proof

/-- A codeword, a field element, a generator coefficient: 8 bits (R10). -/
abbrev Byte := BitVec 8

/-- A control register or a command word: 32 bits (R10, R120). -/
abbrev Word := BitVec 32

/-- A codeword-RAM offset: 12 bits (R10). -/
abbrev CwOffset := BitVec 12

/-- A host byte address: 17 bits (20_memory.md R80). -/
abbrev BusAddr := BitVec 17

end Sys2Proof
end

