-- ==== Sys2Proof/Syntax.lean ====
section
/-! DEFINITION. The 15 commands of spec/opcode_table.json, in the table's order (30_encoding.md R124). -/

namespace Sys2Proof

/-- One command. `a b e n k v` are the whole fields FA or FB of the command word; `m` and `l` are FA, of which only
the low bits may be nonzero in a well-formed command (R122, R124). -/
inductive Instr where
  /-- NOP (44_system.md R290). -/
  | nop
  /-- GFADD a, b (40_gf.md R155). -/
  | gfadd (a b : Byte)
  /-- GFMUL a, b (40_gf.md R156). -/
  | gfmul (a b : Byte)
  /-- GFDIV a, b (40_gf.md R157). -/
  | gfdiv (a b : Byte)
  /-- GFINV a (40_gf.md R158). -/
  | gfinv (a : Byte)
  /-- GFEXP e (40_gf.md R159). -/
  | gfexp (e : Byte)
  /-- GFLOG a (40_gf.md R160). -/
  | gflog (a : Byte)
  /-- RSGEN n (41_rs.md R183). -/
  | rsgen (n : Byte)
  /-- RSENC k, n (41_rs.md R184). -/
  | rsenc (k n : Byte)
  /-- MINIT v (42_matrix.md R230). -/
  | minit (v : Byte)
  /-- MPLACE (42_matrix.md R231). -/
  | mplace
  /-- MAPPLY m (42_matrix.md R232). -/
  | mapply (m : Byte)
  /-- MSCORE m (43_mask.md R270). -/
  | mscore (m : Byte)
  /-- MSELECT (43_mask.md R271). -/
  | mselect
  /-- MFORMAT l (42_matrix.md R244). -/
  | mformat (l : Byte)
deriving DecidableEq, Repr

end Sys2Proof
end

