-- ==== Sys2Proof/WellFormed.lean ====
section
/-! DEFINITION. Which commands can be encoded: the operand fits its field (30_encoding.md R124, R128, R129). -/

namespace Sys2Proof

/-- The operand of a mask command is a mask index, 3 bits (R124: FA bits 2:0; R129 refuses a mask above 7). -/
def maskFits (m : Byte) : Bool := m.toNat ≤ 7

/-- The operand of MFORMAT is a level ordinal, 2 bits (R124: FA bits 1:0; R129 refuses a level above 3). -/
def levelFits (l : Byte) : Bool := l.toNat ≤ 3

/-- A well-formed command. Every 8-bit value of a whole-field operand is well formed: range checks on n, k and v are
semantic, the command's own (R128). -/
def WellFormed : Instr → Bool
  | .nop => true
  | .gfadd _ _ => true
  | .gfmul _ _ => true
  | .gfdiv _ _ => true
  | .gfinv _ => true
  | .gfexp _ => true
  | .gflog _ => true
  | .rsgen _ => true
  | .rsenc _ _ => true
  | .minit _ => true
  | .mplace => true
  | .mapply m => maskFits m
  | .mscore m => maskFits m
  | .mselect => true
  | .mformat l => levelFits l

end Sys2Proof
end

