-- ==== Sys2Proof/Decode.lean ====
section
/-! DEFINITION. Command words: the decoder (30_encoding.md R120 to R126) and, after it, the encoder (R128). -/

namespace Sys2Proof

/-- Why a command word is no command (R125). -/
inductive DecodeError where
  /-- E_ILLEGAL: the OPC is not assigned (R126). -/
  | illegal
  /-- E_RESERVED: a bit of the command's zero set is 1 (R124). -/
  | reserved
deriving DecidableEq, Repr

/-- The assigned operation codes (R124). -/
inductive Opcode where
  | nop | gfadd | gfmul | gfdiv | gfinv | gfexp | gflog | rsgen | rsenc
  | minit | mplace | mapply | mscore | mselect | mformat
deriving DecidableEq, Repr

/-- The OPC column of R124. -/
def opcodeByte : Opcode → Byte
  | .nop => 0x00#8
  | .gfadd => 0x01#8
  | .gfmul => 0x02#8
  | .gfdiv => 0x03#8
  | .gfinv => 0x04#8
  | .gfexp => 0x05#8
  | .gflog => 0x06#8
  | .rsgen => 0x10#8
  | .rsenc => 0x11#8
  | .minit => 0x20#8
  | .mplace => 0x21#8
  | .mapply => 0x22#8
  | .mscore => 0x23#8
  | .mselect => 0x24#8
  | .mformat => 0x25#8

/-- The "zero" column of R124: the bits that must be 0 in a well-formed word. -/
def zeroSet : Opcode → Word
  | .nop => 0xFFFFFF00#32
  | .gfadd => 0xFF000000#32
  | .gfmul => 0xFF000000#32
  | .gfdiv => 0xFF000000#32
  | .gfinv => 0xFFFF0000#32
  | .gfexp => 0xFFFF0000#32
  | .gflog => 0xFFFF0000#32
  | .rsgen => 0xFFFF0000#32
  | .rsenc => 0xFF000000#32
  | .minit => 0xFFFF0000#32
  | .mplace => 0xFFFFFF00#32
  | .mapply => 0xFFFFF800#32
  | .mscore => 0xFFFFF800#32
  | .mselect => 0xFFFFFF00#32
  | .mformat => 0xFFFFFC00#32

/-- Every assigned opcode, in the order of R128. -/
def allOpcodes : List Opcode :=
  [.nop, .gfadd, .gfmul, .gfdiv, .gfinv, .gfexp, .gflog, .rsgen, .rsenc,
   .minit, .mplace, .mapply, .mscore, .mselect, .mformat]

/-- The opcode a byte stands for, if it is assigned (R126). -/
def opcodeOf (b : Byte) : Option Opcode := allOpcodes.find? fun o => opcodeByte o == b

/-- Field OPC, bits 7:0 (R120). -/
def fieldOPC (w : Word) : Byte := w.extractLsb' 0 8

/-- Field FA, bits 15:8 (R120). -/
def fieldFA (w : Word) : Byte := w.extractLsb' 8 8

/-- Field FB, bits 23:16 (R120). -/
def fieldFB (w : Word) : Byte := w.extractLsb' 16 8

/-- The command an opcode makes of its operand fields (R124, columns FA and FB). -/
def buildInstr (o : Opcode) (fa fb : Byte) : Instr :=
  match o with
  | .nop => .nop
  | .gfadd => .gfadd fa fb
  | .gfmul => .gfmul fa fb
  | .gfdiv => .gfdiv fa fb
  | .gfinv => .gfinv fa
  | .gfexp => .gfexp fa
  | .gflog => .gflog fa
  | .rsgen => .rsgen fa
  | .rsenc => .rsenc fa fb
  | .minit => .minit fa
  | .mplace => .mplace
  | .mapply => .mapply fa
  | .mscore => .mscore fa
  | .mselect => .mselect
  | .mformat => .mformat fa

/-- Decoding a command word, in the order of R125: the opcode first, then the zero set. -/
def decode (w : Word) : Except DecodeError Instr :=
  match opcodeOf (fieldOPC w) with
  | none => .error .illegal
  | some o =>
    if w &&& zeroSet o = 0#32 then .ok (buildInstr o (fieldFA w) (fieldFB w)) else .error .reserved

/-- The command whose bits, numbered as spec/opcode_table.json numbers them, are `w`; bits above `nbits` are 0.
A command is ONE 32-bit word (R121), so bit i of `w` is bit i of the command word. -/
def decodeTableWord (nbits w : Nat) : Option Instr :=
  match decode (BitVec.ofNat 32 (w % 2 ^ nbits)) with
  | .ok i => some i
  | .error _ => none

/-- The four fields put together, RSV = 0 (R120). -/
def packWord (opc fa fb : Byte) : Word := 0#8 ++ fb ++ fa ++ opc

/-- The command word of a command (R128). -/
def encode : Instr → Word
  | .nop => packWord 0x00#8 0#8 0#8
  | .gfadd a b => packWord 0x01#8 a b
  | .gfmul a b => packWord 0x02#8 a b
  | .gfdiv a b => packWord 0x03#8 a b
  | .gfinv a => packWord 0x04#8 a 0#8
  | .gfexp e => packWord 0x05#8 e 0#8
  | .gflog a => packWord 0x06#8 a 0#8
  | .rsgen n => packWord 0x10#8 n 0#8
  | .rsenc k n => packWord 0x11#8 k n
  | .minit v => packWord 0x20#8 v 0#8
  | .mplace => packWord 0x21#8 0#8 0#8
  | .mapply m => packWord 0x22#8 m 0#8
  | .mscore m => packWord 0x23#8 m 0#8
  | .mselect => packWord 0x24#8 0#8 0#8
  | .mformat l => packWord 0x25#8 l 0#8

end Sys2Proof
end

