-- ==== Sys2Proof/Config.lean ====
section
/-! DEFINITION. The parameters of 00_scope.md R9, and the one free value of the spec (P_CWRAM_RESET). P_LATENCY is no constant:
it is the schedule in State (log 1). -/

namespace Sys2Proof

/-- A penalty breakdown (43_mask.md R269). -/
structure Penalty where
  n1 : Nat
  n2 : Nat
  n3 : Nat
  n4 : Nat
deriving DecidableEq, Repr

end Sys2Proof

namespace Sys2Proof.Config

/-- P_ALPHA: the primitive element α (R9, D5). -/
abbrev pAlpha : Byte := 0x02#8

/-- P_FIELD_POLY: the field generating polynomial (R9). -/
abbrev pFieldPoly : Nat := 0x11D

/-- P_VMAX: the largest version MINIT accepts (R9, D30). -/
abbrev pVmax : Nat := 40

/-- P_NEC_MAX: the largest correction-codeword count (R9, D9). -/
abbrev pNecMax : Nat := 30

/-- P_KN_MAX: the largest k + n of RSENC (R9, D9). -/
abbrev pKnMax : Nat := 255

/-- P_CWRAM_BYTES: the size of the codeword RAM (R9, D2). -/
abbrev pCwramBytes : Nat := 4096

/-- The side of the array MX, 4 * P_VMAX + 17 (10_state.md R45). -/
abbrev mxSide : Nat := 177

/-- P_ID: the value of the ID register, ASCII "QRSE" (R9, D34). -/
def pId : Word := 0x51525345#32

/-- P_CWRAM_RESET (R9, U1): what byte `a` of CW holds after hardware reset number `epoch`.
A FREE VALUE: no body, so nothing can be proved of it (log 4). -/
opaque cwRamReset (epoch a : Nat) : Byte

/-- P_PENALTY_VARIANT (R9, U14): the exact penalty rules, an argument of the scorer. -/
inductive PenaltyVariant where
  /-- ISO_WINDOW: the rules of 43_mask.md R265 to R268. -/
  | isoWindow
  /-- Another scorer's rules, given as the penalties of a grid of rows (true is dark). The spec names that there are such
  variants (R267) and defines none, so none is written out here (log 6). -/
  | other (rules : List (List Bool) → Penalty)

/-- The value this hardware takes (R9, D18; log 6). -/
def pPenaltyVariant : PenaltyVariant := .isoWindow

/-- P_SCORE_FORMAT (R9, U15): what the scorer sees in the format and version cells. -/
inductive ScoreFormat where
  /-- UNSET_AS_LIGHT: the cells not yet written count as light (43_mask.md R264). -/
  | unsetAsLight
  /-- WRITTEN: each candidate's own format word, at this level ordinal, is written into a copy first (R264). -/
  | written (level : BitVec 2)
deriving DecidableEq, Repr

/-- The value this hardware takes (R9, R264, D19; log 7). -/
def pScoreFormat : ScoreFormat := .unsetAsLight

end Sys2Proof.Config
end

