-- ==== Sys2Proof/Machine/State.lean ====
section
/-! DEFINITION. Everything the spec gives QRSE to hold (10_state.md R30 to R53), as plain data, and its value after
reset (70_reset_and_hazards.md R340). -/

namespace Sys2Proof.Machine

/-- The matrix construction state (R46). Values 5 to 7 of the field never occur (U18), so they are no values here. -/
inductive Phase where
  | empty | func | placed | masked | final
deriving DecidableEq, Repr

/-- The tri-state of a matrix cell (R45). -/
inductive CellVal where
  | unset | light | dark
deriving DecidableEq, Repr

/-- One cell of MX: `fn` is true for a function module (R45). -/
structure Cell where
  val : CellVal
  fn : Bool
deriving DecidableEq, Repr

/-- A data module nothing has been placed in: val = UNSET, fn = 0 (R230). -/
def blankCell : Cell := { val := .unset, fn := false }

/-- MX: 177 rows of 177 cells (R45). Row 0 is the top, column 0 the left (R14). -/
abbrev Matrix := Vector (Vector Cell 177) 177

/-- The codeword RAM's written bytes: (CW offset, byte), offsets strictly rising and below 4096 (R52, log 4). -/
abbrev Memory := List Host.Cell

/-- The error codes of 60_exceptions.md R300; no other value is ever in ERRCODE (U11). -/
inductive ErrCode where
  | none | illegal | reserved | divZero | logZero
  | rsN | rsK | rsRange
  | mxVersion | mxPhase | mxCount | mxRange
deriving DecidableEq, Repr

/-- The size of a bus access: 1, 2 or 4 bytes (20_memory.md R80). -/
inductive Size where
  | one | two | four
deriving DecidableEq, Repr

/-- One host bus access (R80). The value of a write is the low 1, 2 or 4 bytes of `data` (log 9). -/
inductive BusOp where
  | read (addr : BusAddr) (size : Size)
  | write (addr : BusAddr) (size : Size) (data : Word)
deriving DecidableEq, Repr

/-- What may happen next, from outside the engine (00_scope.md R16; log 1). -/
inductive Input where
  /-- The host performs one bus access. -/
  | bus (op : BusOp)
  /-- The host's WAIT: it polls STATUS until BUSY = 0 (30_encoding.md R130). -/
  | wait
  /-- The engine gets its turn before the host goes on (R293: the step may fall at any point). -/
  | engineTurn
  /-- The platform's reset input (70_reset_and_hazards.md R340). -/
  | hardReset
deriving DecidableEq, Repr

/-- The state of QRSE, and below it the model's own three fields. -/
structure State where
  /-- CTRL.IRQEN (R36). -/
  irqen : Bool
  /-- STATUS.DONE (R37). -/
  done : Bool
  /-- STATUS.ERR (R37). -/
  err : Bool
  /-- STATUS.OVR (R37). -/
  ovr : Bool
  /-- STATUS.ACCERR (R37). -/
  accerr : Bool
  /-- STATUS.PHASE (R46). -/
  phase : Phase
  /-- ERRCODE (R38). -/
  errcode : ErrCode
  /-- CMD (R39). -/
  cmd : Word
  /-- GF_R (R40). -/
  gfR : Byte
  /-- RS_SRC (R41). -/
  rsSrc : CwOffset
  /-- RS_DST (R41). -/
  rsDst : CwOffset
  /-- GEN_DEG (R42). -/
  genDeg : Byte
  /-- GEN[0..30]; entry j is the coefficient of x^j (R42). -/
  gen : Vector Byte 31
  /-- PL_SRC (R43). -/
  plSrc : CwOffset
  /-- PL_COUNT (R43). -/
  plCount : CwOffset
  /-- MX_VERSION (R44). -/
  mxVersion : BitVec 6
  /-- MX_SIZE (R44). -/
  mxSize : BitVec 8
  /-- MX_DATAMOD (R44). -/
  mxDatamod : BitVec 15
  /-- The module matrix (R45). -/
  mx : Matrix
  /-- MX_MASK.MASK (R47). -/
  mxMask : BitVec 3
  /-- MX_MASK.VALID (R47). -/
  mxMaskValid : Bool
  /-- MX_ECLEVEL.LEVEL (R47). -/
  mxLevel : BitVec 2
  /-- MX_ECLEVEL.VALID (R47). -/
  mxLevelValid : Bool
  /-- MX_FORMAT (R48). -/
  mxFormat : BitVec 15
  /-- MX_VERINFO (R48). -/
  mxVerinfo : BitVec 18
  /-- PEN_TOTAL (R49). -/
  penTotal : Word
  /-- PEN_N1 (R49). -/
  penN1 : Word
  /-- PEN_N2 (R49). -/
  penN2 : Word
  /-- PEN_N3 (R49). -/
  penN3 : Word
  /-- PEN_N4 (R49). -/
  penN4 : Word
  /-- PEN_MASK (R49). -/
  penMask : BitVec 3
  /-- PEN_M0..PEN_M7 (R50). -/
  penM : Vector Word 8
  /-- Latch PEND, which is STATUS.BUSY (R32, R37). -/
  pend : Bool
  /-- Latch LWORD (R32). -/
  lword : Word
  /-- Latch LRS_SRC (R32). -/
  lrsSrc : CwOffset
  /-- Latch LRS_DST (R32). -/
  lrsDst : CwOffset
  /-- Latch LPL_SRC (R32). -/
  lplSrc : CwOffset
  /-- Latch LPL_COUNT (R32). -/
  lplCount : CwOffset
  /-- CW, the written bytes of the codeword RAM (R52). -/
  cw : Memory
  /-- MODEL'S OWN: the number of hardware resets so far, which indexes CW's free contents (U1, log 4). -/
  cwEpoch : Nat
  /-- MODEL'S OWN: what the outside does next, and where the engine's turns fall (log 1). -/
  inputs : List Input
  /-- MODEL'S OWN: the value the last read access returned to the host (R80, log 9). -/
  busData : Word
deriving DecidableEq, Repr

/-- QRSE never stops with a fault: R302 names its three kinds of problem, all recorded in state, and says there is no
lockup, and R321 that access checks never fault. So there is no fault to name. -/
inductive Fault where
deriving DecidableEq, Repr

/-- Why a step gives no meaning. -/
inductive Refusal where
  /-- An arm of exec with no meaning yet. Safe. No arm of this model raises it. -/
  | notModelled (mnemonic : String)
deriving DecidableEq, Repr

/-- QRSE right after hardware reset (R340). MX is blank (log 5), CW holds no written byte (log 4), nothing is
waiting at the bus (log 1). -/
def State.reset : State where
  irqen := false
  done := false
  err := false
  ovr := false
  accerr := false
  phase := .empty
  errcode := .none
  cmd := 0#32
  gfR := 0x00#8
  rsSrc := 0#12
  rsDst := 0#12
  genDeg := 0#8
  gen := Vector.ofFn fun j => if j.val = 0 then 0x01#8 else 0x00#8
  plSrc := 0#12
  plCount := 0#12
  mxVersion := 0#6
  mxSize := 0#8
  mxDatamod := 0#15
  mx := Vector.replicate 177 (Vector.replicate 177 blankCell)
  mxMask := 0#3
  mxMaskValid := false
  mxLevel := 0#2
  mxLevelValid := false
  mxFormat := 0#15
  mxVerinfo := 0#18
  penTotal := 0#32
  penN1 := 0#32
  penN2 := 0#32
  penN3 := 0#32
  penN4 := 0#32
  penMask := 0#3
  penM := Vector.replicate 8 0#32
  pend := false
  lword := 0#32
  lrsSrc := 0#12
  lrsDst := 0#12
  lplSrc := 0#12
  lplCount := 0#12
  cw := []
  cwEpoch := 0
  inputs := []
  busData := 0#32

end Sys2Proof.Machine
end

