-- ==== Sys2Proof/Machine/Flags.lean ====
section
/-! DEFINITION. The status bits: how STATUS, CTRL, ERRCODE, MX_MASK and MX_ECLEVEL are laid out, what a write to STATUS
clears, and the interrupt output. -/

namespace Sys2Proof.Machine

/-- The PHASE field's encoding (10_state.md R46). -/
def phaseBits : Phase → BitVec 3
  | .empty => 0#3
  | .func => 1#3
  | .placed => 2#3
  | .masked => 3#3
  | .final => 4#3

/-- The code of an error (60_exceptions.md R300). -/
def errByte : ErrCode → Byte
  | .none => 0x00#8
  | .illegal => 0x01#8
  | .reserved => 0x02#8
  | .divZero => 0x03#8
  | .logZero => 0x04#8
  | .rsN => 0x10#8
  | .rsK => 0x11#8
  | .rsRange => 0x12#8
  | .mxVersion => 0x20#8
  | .mxPhase => 0x21#8
  | .mxCount => 0x22#8
  | .mxRange => 0x23#8

/-- STATUS as the host reads it (R37): PHASE in bits 10:8, ACCERR 4, OVR 3, ERR 2, DONE 1, BUSY 0. -/
def statusWord (s : State) : Word :=
  0#21 ++ phaseBits s.phase ++ 0#3 ++ BitVec.ofBool s.accerr ++ BitVec.ofBool s.ovr ++ BitVec.ofBool s.err
    ++ BitVec.ofBool s.done ++ BitVec.ofBool s.pend

/-- CTRL as the host reads it (R36): IRQEN in bit 0; SRST reads 0. -/
def ctrlWord (s : State) : Word := 0#31 ++ BitVec.ofBool s.irqen

/-- MX_MASK as the host reads it (R47): MASK in bits 2:0, VALID in bit 8. -/
def maskWord (s : State) : Word := 0#23 ++ BitVec.ofBool s.mxMaskValid ++ 0#5 ++ s.mxMask

/-- MX_ECLEVEL as the host reads it (R47): LEVEL in bits 1:0, VALID in bit 8. -/
def levelWord (s : State) : Word := 0#23 ++ BitVec.ofBool s.mxLevelValid ++ 0#6 ++ s.mxLevel

/-- A host write to STATUS (R37): a 1 in bit 1, 3 or 4 clears DONE, OVR or ACCERR; every other bit is ignored. -/
def clearStatus (w : Word) (s : State) : State :=
  { s with
    done := s.done && !w.getLsbD 1
    ovr := s.ovr && !w.getLsbD 3
    accerr := s.accerr && !w.getLsbD 4 }

/-- STATUS.ACCERR <- 1 (20_memory.md R90). -/
def setAccerr (s : State) : State := { s with accerr := true }

/-- STATUS.OVR <- 1 (44_system.md R292). -/
def setOvr (s : State) : State := { s with ovr := true }

/-- The interrupt output (60_exceptions.md R310). -/
def irq (s : State) : Bool := s.irqen && s.done

end Sys2Proof.Machine
end

