-- ==== Sys2Proof/Machine/Operands.lean ====
section
/-! DEFINITION. Operand forms: immediates are unsigned (30_encoding.md R122); register operands come from the copies
the latch took at acceptance, never from the live registers (R123). -/

namespace Sys2Proof.Machine

/-- An 8-bit immediate as a count or a version (R122: zero-extended). -/
abbrev immNat (x : Byte) : Nat := x.toNat

/-- The mask operand m = FA[2:0] (R232, R270). -/
def maskOperand (fa : Byte) : BitVec 3 := fa.extractLsb' 0 3

/-- The level operand = FA[1:0], an ordinal (R244, R127). -/
def levelOperand (fa : Byte) : BitVec 2 := fa.extractLsb' 0 2

/-- RSENC's src = LRS_SRC (R184). -/
abbrev rsencSrc (s : State) : Nat := s.lrsSrc.toNat

/-- RSENC's dst = LRS_DST (R184). -/
abbrev rsencDst (s : State) : Nat := s.lrsDst.toNat

/-- MPLACE's src = LPL_SRC (R231). -/
abbrev mplaceSrc (s : State) : Nat := s.lplSrc.toNat

/-- MPLACE's count = LPL_COUNT (R231). -/
abbrev mplaceCount (s : State) : Nat := s.lplCount.toNat

/-- The side s of the current symbol, MX_SIZE (R45). -/
abbrev symbolSide (s : State) : Nat := s.mxSize.toNat

/-- The version of the current symbol, MX_VERSION (R44). -/
abbrev symbolVersion (s : State) : Nat := s.mxVersion.toNat

/-- The data-module count D of the current symbol, MX_DATAMOD (R44). -/
abbrev symbolDatamod (s : State) : Nat := s.mxDatamod.toNat

end Sys2Proof.Machine
end

