-- ==== Sys2Proof/Machine/Ops.lean ====
section
/-! DEFINITION. The named operations over the codeword RAM, the matrix and the control state: completion of a command
(with or without an error), acceptance of the next one, and the two resets. -/

namespace Sys2Proof.Machine

/-! ### The codeword RAM -/

/-- The byte written at an address, if any was (R87). -/
def Memory.read (m : Memory) (a : Nat) : Option Byte := List.lookup a m

/-- Write one byte, keeping the offsets strictly rising. -/
def Memory.write (a : Nat) (v : Byte) : Memory → Memory
  | [] => [(a, v)]
  | (b, w) :: m =>
    if a < b then (a, v) :: (b, w) :: m
    else if a = b then (a, v) :: m
    else (b, w) :: Memory.write a v m

/-- Write bytes at a, a + 1, ... in that order (R81, R184). -/
def Memory.writeBlock (a : Nat) : List Byte → Memory → Memory
  | [], m => m
  | v :: vs, m => Memory.writeBlock (a + 1) vs (Memory.write a v m)

/-- The canonical form: offsets strictly rising, each below 4096 (R52). -/
def Memory.wf (m : Memory) : Bool :=
  decide (m.Pairwise fun x y => x.1 < y.1) && m.all fun x => x.1 < Config.pCwramBytes

/-- CW[a] (00_scope.md R12). A byte never written since hardware reset reads its free value (R87, U1; log 4). -/
def cwByte (s : State) (a : Nat) : Byte := (s.cw.read a).getD (Config.cwRamReset s.cwEpoch a)

/-- The bytes CW[src], ..., CW[src + k - 1], lowest offset first. -/
def cwBlock (s : State) (src k : Nat) : List Byte := (List.range k).map fun i => cwByte s (src + i)

/-! ### The module matrix -/

/-- MX[r][c]; a position outside the array holds nothing and reads as a blank cell (log 10). -/
def cellAt (mx : Matrix) (r c : Nat) : Cell :=
  if h : r < 177 ∧ c < 177 then (mx[r]'h.1)[c]'h.2 else blankCell

/-- The 177 values f 0, ..., f 176. -/
def tabulateLine {α : Type} (f : Nat → α) : Vector α 177 := ⟨((List.range 177).map f).toArray, by simp⟩

/-- The matrix whose cell (r, c) is `f r c`. -/
def tabulate (f : Nat → Nat → Cell) : Matrix := tabulateLine fun r => tabulateLine (f r)

/-- MX[r][c].val <- v; fn stays (R219). A position outside the array is no cell, so nothing is written (log 10). -/
def setVal (mx : Matrix) (r c : Nat) (v : CellVal) : Matrix :=
  if h : r < 177 ∧ c < 177 then
    mx.set r ((mx[r]'h.1).set c { (mx[r]'h.1)[c]'h.2 with val := v } h.2) h.1
  else mx

/-- DARK for a 1 bit, LIGHT for a 0 bit (R221, R241, R243). -/
def valOfBit (b : Bool) : CellVal := if b then .dark else .light

/-! ### Completion, which records an error (R293, R305) -/

/-- Completion of the pending command with code `e`; E_NONE is completion without error. This is the one place where a
command's error is taken: nothing but these four fields changes (R305). -/
def complete (e : ErrCode) (s : State) : State :=
  { s with pend := false, done := true, err := e != .none, errcode := e }

/-- Acceptance of the command word `w` (R291): the only "return" from an error, since it clears ERR and ERRCODE (R306). -/
def acceptCommand (w : Word) (s : State) : State :=
  { s with
    lword := w
    cmd := w
    lrsSrc := s.rsSrc
    lrsDst := s.rsDst
    lplSrc := s.plSrc
    lplCount := s.plCount
    done := false
    err := false
    errcode := .none
    pend := true }

/-! ### Reset -/

/-- Soft reset (R341): every state takes its reset value but CW, whose contents (written bytes and free ones) stay.
The outside world is not reset. -/
def softReset (s : State) : State :=
  { State.reset with cw := s.cw, cwEpoch := s.cwEpoch, inputs := s.inputs, busData := s.busData }

/-- Hardware reset (R340): every state takes its reset value, and CW's contents are unspecified anew (U1; log 4). -/
def hardReset (s : State) : State :=
  { State.reset with cwEpoch := s.cwEpoch + 1, inputs := s.inputs, busData := s.busData }

end Sys2Proof.Machine
end

