-- ==== Sys2Proof/Machine/Gf.lean ====
section
/-! DEFINITION. The GF unit (40_gf.md): the field operations, and GFADD, GFMUL, GFDIV, GFINV, GFEXP, GFLOG. -/

namespace Sys2Proof.Machine

/-- a ⊗ b by the log tables (R152). -/
def gfMul (a b : Byte) : Byte :=
  if a = 0x00#8 ∨ b = 0x00#8 then 0x00#8 else expAt (((logAt a).toNat + (logAt b).toNat) % 255)

/-- a ⊘ b, for b ≠ 0 (R153). The difference is taken mod 255 as a non-negative remainder (R11), so 255 is added first. -/
def gfDiv (a b : Byte) : Byte :=
  if a = 0x00#8 then 0x00#8 else expAt ((255 + (logAt a).toNat - (logAt b).toNat) % 255)

/-- inv(a), for a ≠ 0 (R154). -/
def gfInv (a : Byte) : Byte := expAt ((255 - (logAt a).toNat) % 255)

/-- A GF command's result goes to GF_R and nothing else changes but the completion state (R40, 40_gf.md section 2). -/
def gfResult (r : Byte) (s : State) : State := complete .none { s with gfR := r }

/-- GFADD: field addition (R155). -/
def execGfadd (a b : Byte) (s : State) : Host.Outcome State Fault Refusal :=
  .next (gfResult (a ^^^ b) s)

/-- GFMUL: field multiplication (R156). -/
def execGfmul (a b : Byte) (s : State) : Host.Outcome State Fault Refusal :=
  .next (gfResult (gfMul a b) s)

/-- GFDIV: field division; E_DIVZERO when b = 0 (R157). -/
def execGfdiv (a b : Byte) (s : State) : Host.Outcome State Fault Refusal :=
  if b = 0x00#8 then .next (complete .divZero s) else .next (gfResult (gfDiv a b) s)

/-- GFINV: the inverse; E_DIVZERO when a = 0 (R158). -/
def execGfinv (a : Byte) (s : State) : Host.Outcome State Fault Refusal :=
  if a = 0x00#8 then .next (complete .divZero s) else .next (gfResult (gfInv a) s)

/-- GFEXP: EXP[e] (R159). -/
def execGfexp (e : Byte) (s : State) : Host.Outcome State Fault Refusal :=
  .next (gfResult (expAt e.toNat) s)

/-- GFLOG: LOG[a]; E_LOGZERO when a = 0 (R160). -/
def execGflog (a : Byte) (s : State) : Host.Outcome State Fault Refusal :=
  if a = 0x00#8 then .next (complete .logZero s) else .next (gfResult (logAt a) s)

end Sys2Proof.Machine
end

