-- ==== Sys2Proof/Machine/Rs.lean ====
section
/-! DEFINITION. The RS unit (41_rs.md): the generator polynomial, the division, and RSGEN, RSENC. -/

namespace Sys2Proof.Machine

/-- GEN[j], 0 <= j <= 30; no entry above 30. -/
def genAt (g : Vector Byte 31) (j : Nat) : Byte := if h : j < 31 then g[j] else 0x00#8

/-- The generator of degree 0, the polynomial 1 (R42, R181). -/
def genOne : Vector Byte 31 := Vector.ofFn fun j => if j.val = 0 then 0x01#8 else 0x00#8

/-- One turn of R181's outer loop: multiply g, of degree i, by (x ⊕ α^i). The inner loop runs j downward and reads g[j-1]
and g[j] before it writes them, so every new entry is computed from old ones (log 12). -/
def genStep (g : Vector Byte 31) (i : Nat) : Vector Byte 31 :=
  Vector.ofFn fun j =>
    if j.val = 0 then gfMul (genAt g 0) (expAt i)
    else if j.val ≤ i + 1 then genAt g (j.val - 1) ^^^ gfMul (genAt g j.val) (expAt i)
    else genAt g j.val

/-- The generator polynomial of degree n, coefficients g[0..30] (R181). -/
def generator (n : Nat) : Vector Byte 31 := (List.range n).foldl genStep genOne

/-- One turn of R182's outer loop, for the data codeword d: r[j] is the coefficient of x^(n-1-j). -/
def remainderStep (g : Vector Byte 31) (n : Nat) (r : List Byte) (d : Byte) : List Byte :=
  let f := d ^^^ r.getD 0 0x00#8
  (List.range n).map fun j =>
    if j + 1 < n then r.getD (j + 1) 0x00#8 ^^^ gfMul f (genAt g (n - 1 - j)) else gfMul f (genAt g 0)

/-- e_0, ..., e_(n-1) of the data codewords, d_0 first (R182). -/
def remainder (g : Vector Byte 31) (n : Nat) (data : List Byte) : List Byte :=
  data.foldl (remainderStep g n) (List.replicate n 0x00#8)

/-- GEN and GEN_DEG take the generator of degree n (R183, R184). -/
def setGenerator (n : Nat) (s : State) : State :=
  { s with gen := generator n, genDeg := BitVec.ofNat 8 n }

/-- RSGEN: build a generator polynomial (R183). -/
def execRsgen (n : Byte) (s : State) : Host.Outcome State Fault Refusal :=
  if 1 ≤ immNat n ∧ immNat n ≤ Config.pNecMax then
    .next (complete .none (setGenerator (immNat n) s))
  else .next (complete .rsN s)

/-- The correction codewords RSENC writes: all k data codewords are read first (R184, R185). -/
def rsencResult (k n : Nat) (s : State) : List Byte :=
  remainder (generator n) n (cwBlock s (rsencSrc s) k)

/-- RSENC: compute the correction codewords of one block (R184). -/
def execRsenc (k n : Byte) (s : State) : Host.Outcome State Fault Refusal :=
  if ¬(1 ≤ immNat n ∧ immNat n ≤ Config.pNecMax) then .next (complete .rsN s)
  else if ¬(1 ≤ immNat k ∧ immNat k + immNat n ≤ Config.pKnMax) then .next (complete .rsK s)
  else if ¬(rsencSrc s + immNat k ≤ Config.pCwramBytes ∧ rsencDst s + immNat n ≤ Config.pCwramBytes) then
    .next (complete .rsRange s)
  else
    let t := setGenerator (immNat n) s
    .next (complete .none { t with cw := Memory.writeBlock (rsencDst s) (rsencResult (immNat k) (immNat n) s) t.cw })

end Sys2Proof.Machine
end

