-- ==== Sys2Proof/Machine/Bus.lean ====
section
/-! DEFINITION. The host bus: the register map (10_state.md R34 to R53), the address map and its windows, which accesses
are rejected, and what an access does (20_memory.md R80 to R92). -/

namespace Sys2Proof.Machine

/-! ### Control registers -/

/-- The control registers (R34). -/
inductive Reg where
  | id | ctrl | status | errcode | cmd | gfR | rsSrc | rsDst | genDeg | plSrc | plCount
  | mxVersion | mxSize | mxDatamod | mxMask | mxEclevel | mxFormat | mxVerinfo
  | penTotal | penN1 | penN2 | penN3 | penN4 | penMask | penM (m : Fin 8)
deriving DecidableEq, Repr

/-- The registers in offset order, 4 bytes apart from 0x000 to 0x07C (R34). -/
def allRegs : List Reg :=
  [.id, .ctrl, .status, .errcode, .cmd, .gfR, .rsSrc, .rsDst, .genDeg, .plSrc, .plCount,
   .mxVersion, .mxSize, .mxDatamod, .mxMask, .mxEclevel, .mxFormat, .mxVerinfo,
   .penTotal, .penN1, .penN2, .penN3, .penN4, .penMask,
   .penM 0, .penM 1, .penM 2, .penM 3, .penM 4, .penM 5, .penM 6, .penM 7]

/-- The register at an offset of the control page, none for the reserved offsets 0x080 to 0x0FC (R34, R53). -/
def regAt (offset : Nat) : Option Reg := allRegs[offset / 4]?

/-- What a register reads, reserved bits 0 (R34, R84). -/
def readReg (r : Reg) (s : State) : Word :=
  match r with
  | .id => Config.pId
  | .ctrl => ctrlWord s
  | .status => statusWord s
  | .errcode => (errByte s.errcode).setWidth 32
  | .cmd => s.cmd
  | .gfR => s.gfR.setWidth 32
  | .rsSrc => s.rsSrc.setWidth 32
  | .rsDst => s.rsDst.setWidth 32
  | .genDeg => s.genDeg.setWidth 32
  | .plSrc => s.plSrc.setWidth 32
  | .plCount => s.plCount.setWidth 32
  | .mxVersion => s.mxVersion.setWidth 32
  | .mxSize => s.mxSize.setWidth 32
  | .mxDatamod => s.mxDatamod.setWidth 32
  | .mxMask => maskWord s
  | .mxEclevel => levelWord s
  | .mxFormat => s.mxFormat.setWidth 32
  | .mxVerinfo => s.mxVerinfo.setWidth 32
  | .penTotal => s.penTotal
  | .penN1 => s.penN1
  | .penN2 => s.penN2
  | .penN3 => s.penN3
  | .penN4 => s.penN4
  | .penMask => s.penMask.setWidth 32
  | .penM m => s.penM[m.val]

/-- A write of w to CTRL: a 1 in bit 1 is a soft reset and the rest of the write is discarded; else bit 0 goes to IRQEN (R36). -/
def writeCtrl (w : Word) (s : State) : State :=
  if w.getLsbD 1 then softReset s else { s with irqen := w.getLsbD 0 }

/-- A write of w to CMD: accepted when BUSY = 0 (44_system.md R291), dropped with OVR when BUSY = 1 (R292). -/
def writeCmd (w : Word) (s : State) : State := if s.pend then setOvr s else acceptCommand w s

/-- What a 4-byte write of w to a register does; none for a read-only register (R53). Bits 31:12 of the operand registers
are ignored (R41, R43). -/
def writeReg (r : Reg) (w : Word) (s : State) : Option State :=
  match r with
  | .ctrl => some (writeCtrl w s)
  | .status => some (clearStatus w s)
  | .cmd => some (writeCmd w s)
  | .rsSrc => some { s with rsSrc := w.extractLsb' 0 12 }
  | .rsDst => some { s with rsDst := w.extractLsb' 0 12 }
  | .plSrc => some { s with plSrc := w.extractLsb' 0 12 }
  | .plCount => some { s with plCount := w.extractLsb' 0 12 }
  | .id => none
  | .errcode => none
  | .gfR => none
  | .genDeg => none
  | .mxVersion => none
  | .mxSize => none
  | .mxDatamod => none
  | .mxMask => none
  | .mxEclevel => none
  | .mxFormat => none
  | .mxVerinfo => none
  | .penTotal => none
  | .penN1 => none
  | .penN2 => none
  | .penN3 => none
  | .penN4 => none
  | .penMask => none
  | .penM _ => none

/-! ### The address map -/

/-- The regions of R83. -/
inductive Region where
  | control | gen | exp | log | cw | matrix | unmapped
deriving DecidableEq, Repr

/-- The region of a byte address (R83). -/
def regionOf (a : Nat) : Region :=
  if a < 0x00100 then .control
  else if a < 0x00200 then .gen
  else if a < 0x00300 then .exp
  else if a < 0x00400 then .log
  else if a < 0x01000 then .unmapped
  else if a < 0x02000 then .cw
  else if a < 0x10000 then .unmapped
  else .matrix

/-- The regions blocked while BUSY (R83, R88). -/
def blockedWhileBusy : Region → Bool
  | .gen => true
  | .cw => true
  | .matrix => true
  | .control => false
  | .exp => false
  | .log => false
  | .unmapped => false

/-- The number of bytes of an access (R80). -/
def sizeBytes : Size → Nat
  | .one => 1
  | .two => 2
  | .four => 4

/-- Natural alignment (R82). -/
def aligned (a : Nat) (n : Size) : Bool := a % sizeBytes n == 0

/-- The byte of a cell in the MATRIX window (R86): bit 0 DARK, bit 1 not UNSET, bit 2 fn. -/
def cellByte (x : Cell) : Byte :=
  0#5 ++ BitVec.ofBool x.fn ++ BitVec.ofBool (x.val != .unset) ++ BitVec.ofBool (x.val == .dark)

/-- Byte 0x10000 + 256 r + c of the MATRIX window: 0x00 outside the symbol and in phase EMPTY (R86). -/
def matrixByte (s : State) (r c : Nat) : Byte :=
  if symbolSide s ≤ r ∨ symbolSide s ≤ c ∨ s.phase = .empty then 0x00#8 else cellByte (cellAt s.mx r c)

/-- The byte at address a of a window or of CW (R85, R86, R87). The control page has no bytes: it is accessed whole
registers at a time (R81, R84); an unmapped address has none either. -/
def windowByte (s : State) (a : Nat) : Byte :=
  match regionOf a with
  | .gen => genAt s.gen (a - 0x00100)
  | .exp => expAt (a - 0x00200)
  | .log => logTable.getD (a - 0x00300) 0x00#8
  | .cw => cwByte s (a - 0x01000)
  | .matrix => matrixByte s ((a - 0x10000) / 256) ((a - 0x10000) % 256)
  | .control => 0x00#8
  | .unmapped => 0x00#8

/-- An n-byte little-endian value, zero-extended, of bytes 0, 1, ... (R81). -/
def joinBytes (n : Size) (f : Nat → Byte) : Word :=
  match n with
  | .one => 0#24 ++ f 0
  | .two => 0#16 ++ f 1 ++ f 0
  | .four => f 3 ++ f 2 ++ f 1 ++ f 0

/-- The n bytes of a written value, byte 0 first: byte i is w[8i+7 : 8i] (R81). -/
def splitBytes (n : Size) (w : Word) : List Byte := (List.range (sizeBytes n)).map fun i => w.extractLsb' (8 * i) 8

/-! ### Accesses -/

/-- What a read returns; none when it is rejected (R82 to R90). -/
def busRead (a : Nat) (n : Size) (s : State) : Option Word :=
  if ¬aligned a n then none
  else
    match regionOf a with
    | .control => if n = .four then (regAt a).map fun r => readReg r s else none
    | .unmapped => none
    | r =>
      if s.pend && blockedWhileBusy r then none else some (joinBytes n fun i => windowByte s (a + i))

/-- The state after a write; none when it is rejected (R82 to R90). -/
def busWrite (a : Nat) (n : Size) (w : Word) (s : State) : Option State :=
  if ¬aligned a n then none
  else
    match regionOf a with
    | .control => if n = .four then (regAt a).bind fun r => writeReg r w s else none
    | .cw =>
      if s.pend && blockedWhileBusy .cw then none
      else some { s with cw := Memory.writeBlock (a - 0x01000) (splitBytes n w) s.cw }
    | .gen => none
    | .exp => none
    | .log => none
    | .matrix => none
    | .unmapped => none

/-- One host access. A rejected one writes nothing, reads 0 and sets ACCERR (R90). -/
def busAccess (op : BusOp) (s : State) : State :=
  match op with
  | .read a n =>
    match busRead a.toNat n s with
    | some w => { s with busData := w }
    | none => setAccerr { s with busData := 0#32 }
  | .write a n w =>
    match busWrite a.toNat n w s with
    | some t => t
    | none => setAccerr s

end Sys2Proof.Machine
end

