-- ==== Sys2Proof/Machine/Geometry.lean ====
section
/-! DEFINITION. Where everything stands in a symbol (42_matrix.md R210 to R220), and the format and version words
(R239 to R243). -/

namespace Sys2Proof.Machine

/-! ### Function patterns -/

/-- The side of a symbol of version v (R210). -/
def sideOf (v : Nat) : Nat := 4 * v + 17

/-- |x - y| (00_scope.md R11). -/
def absDiff (x y : Nat) : Nat := (x - y) + (y - x)

/-- The ring a cell is on around a centre: max(|r - r0|, |c - c0|) (R211, R214). -/
def ringOf (r c r0 c0 : Nat) : Nat := max (absDiff r r0) (absDiff c c0)

/-- A function module with this value. -/
def fnCell (v : CellVal) : Cell := { val := v, fn := true }

/-- The centres of the three finders (R211). -/
def finderCentres (s : Nat) : List (Nat × Nat) := [(3, 3), (3, s - 4), (s - 4, 3)]

/-- What the finders and separators set a cell to, if anything (R211). -/
def finderCell (s r c : Nat) : Option Cell :=
  (finderCentres s).findSome? fun p =>
    if absDiff r p.1 ≤ 4 ∧ absDiff c p.2 ≤ 4 ∧ r < s ∧ c < s then
      let d := ringOf r c p.1 p.2
      some (fnCell (if d = 0 ∨ d = 1 ∨ d = 3 then .dark else .light))
    else none

/-- The timing pattern's value at index i: dark when i is even (R212). -/
def timingVal (i : Nat) : CellVal := if i % 2 = 0 then .dark else .light

/-- What the timing patterns set a cell to, if anything (R212: 8 <= i <= s - 9). -/
def timingCell (s r c : Nat) : Option Cell :=
  if r = 6 ∧ 8 ≤ c ∧ c + 9 ≤ s then some (fnCell (timingVal c))
  else if c = 6 ∧ 8 ≤ r ∧ r + 9 ≤ s then some (fnCell (timingVal r))
  else none

/-- P(1) to P(10) (R213). -/
def alignPart0 : List (List Nat) :=
  [[],
   [6, 18],
   [6, 22],
   [6, 26],
   [6, 30],
   [6, 34],
   [6, 22, 38],
   [6, 24, 42],
   [6, 26, 46],
   [6, 28, 50]]

/-- P(11) to P(20) (R213). -/
def alignPart1 : List (List Nat) :=
  [[6, 30, 54],
   [6, 32, 58],
   [6, 34, 62],
   [6, 26, 46, 66],
   [6, 26, 48, 70],
   [6, 26, 50, 74],
   [6, 30, 54, 78],
   [6, 30, 56, 82],
   [6, 30, 58, 86],
   [6, 34, 62, 90]]

/-- P(21) to P(30) (R213). -/
def alignPart2 : List (List Nat) :=
  [[6, 28, 50, 72, 94],
   [6, 26, 50, 74, 98],
   [6, 30, 54, 78, 102],
   [6, 28, 54, 80, 106],
   [6, 32, 58, 84, 110],
   [6, 30, 58, 86, 114],
   [6, 34, 62, 90, 118],
   [6, 26, 50, 74, 98, 122],
   [6, 30, 54, 78, 102, 126],
   [6, 26, 52, 78, 104, 130]]

/-- P(31) to P(40) (R213). -/
def alignPart3 : List (List Nat) :=
  [[6, 30, 56, 82, 108, 134],
   [6, 34, 60, 86, 112, 138],
   [6, 30, 58, 86, 114, 142],
   [6, 34, 62, 90, 118, 146],
   [6, 30, 54, 78, 102, 126, 150],
   [6, 24, 50, 76, 102, 128, 154],
   [6, 28, 54, 80, 106, 132, 158],
   [6, 32, 58, 84, 110, 136, 162],
   [6, 26, 54, 82, 110, 138, 166],
   [6, 30, 58, 86, 114, 142, 170]]

/-- The alignment-pattern centre coordinates P(v), 1 <= v <= 40 (R213). -/
def alignCoords (v : Nat) : List Nat := (alignPart0 ++ alignPart1 ++ alignPart2 ++ alignPart3).getD (v - 1) []

/-- The index pairs that coincide with finder patterns (R214). -/
def alignSkipped (n a b : Nat) : Bool := (a == 0 && b == 0) || (a == 0 && b == n - 1) || (a == n - 1 && b == 0)

/-- The centres of the alignment patterns: every pair (P[a], P[b]) but the three skipped ones (R214). -/
def alignCentres (v : Nat) : List (Nat × Nat) :=
  let p := alignCoords v
  p.zipIdx.flatMap fun x =>
    p.zipIdx.filterMap fun y => if alignSkipped p.length x.2 y.2 then none else some (x.1, y.1)

/-- What the alignment patterns set a cell to, if anything (R214). -/
def alignCell (v r c : Nat) : Option Cell :=
  (alignCentres v).findSome? fun p =>
    if absDiff r p.1 ≤ 2 ∧ absDiff c p.2 ≤ 2 then
      let d := ringOf r c p.1 p.2
      some (fnCell (if d = 0 ∨ d = 2 then .dark else .light))
    else none

/-- Copy 1 of the format cells; entry i receives F[i] (R216). -/
def formatCopy1 : List (Nat × Nat) :=
  [(0, 8), (1, 8), (2, 8), (3, 8), (4, 8), (5, 8), (7, 8), (8, 8), (8, 7),
   (8, 5), (8, 4), (8, 3), (8, 2), (8, 1), (8, 0)]

/-- Copy 2 of the format cells; entry i receives F[i] (R216). -/
def formatCopy2 (s : Nat) : List (Nat × Nat) :=
  [(8, s - 1), (8, s - 2), (8, s - 3), (8, s - 4), (8, s - 5), (8, s - 6), (8, s - 7), (8, s - 8),
   (s - 7, 8), (s - 6, 8), (s - 5, 8), (s - 4, 8), (s - 3, 8), (s - 2, 8), (s - 1, 8)]

/-- The reserved format cells (R216). -/
def formatReserve (s r c : Nat) : Option Cell :=
  if (r, c) ∈ formatCopy1 ∨ (r, c) ∈ formatCopy2 s then some (fnCell .unset) else none

/-- The dark module (R217). -/
def darkModule (s r c : Nat) : Option Cell := if r + 8 = s ∧ c = 8 then some (fnCell .dark) else none

/-- Block A of the version cells; entry i receives V[i] (R218). -/
def versionBlockA (s : Nat) : List (Nat × Nat) := (List.range 18).map fun i => (i / 3, s - 11 + i % 3)

/-- Block B of the version cells, the transpose of block A (R218). -/
def versionBlockB (s : Nat) : List (Nat × Nat) := (List.range 18).map fun i => (s - 11 + i % 3, i / 3)

/-- The reserved version cells, for v >= 7 only (R218). -/
def versionReserve (v r c : Nat) : Option Cell :=
  if 7 ≤ v ∧ ((r, c) ∈ versionBlockA (sideOf v) ∨ (r, c) ∈ versionBlockB (sideOf v)) then some (fnCell .unset)
  else none

/-- MINIT's steps at one cell, in the order of R223. -/
def layoutSteps (v r c : Nat) : List (Option Cell) :=
  [finderCell (sideOf v) r c, timingCell (sideOf v) r c, alignCell v r c,
   formatReserve (sideOf v) r c, darkModule (sideOf v) r c, versionReserve v r c]

/-- A cell of the symbol after MINIT: the steps are taken in order, each setting the cell or leaving it (R223, R230; log 11).
A cell no step sets is a data module, UNSET (R219). -/
def layoutCell (v r c : Nat) : Cell := (layoutSteps v r c).foldl (fun cell step => step.getD cell) blankCell

/-- MX after MINIT v: every cell of the array is cleared, then the symbol's cells are set (R230). -/
def layout (v : Nat) : Matrix :=
  tabulate fun r c => if r < sideOf v ∧ c < sideOf v then layoutCell v r c else blankCell

/-- The number of data modules of the symbol of side s (R226). -/
def countData (mx : Matrix) (s : Nat) : Nat :=
  ((List.range s).map fun r => (List.range s).countP fun c => !(cellAt mx r c).fn).sum

/-! ### The zig-zag traversal -/

/-- The right-hand columns of the pairs, from `col` leftwards (R220): column 6 is skipped by moving to 5. `fuel` bounds the
number of pairs. -/
def zigzagColumns : Nat → Nat → List Nat
  | 0, _ => []
  | fuel + 1, col =>
    if col = 0 then []
    else
      let right := if col = 6 then 5 else col
      right :: zigzagColumns fuel (right - 2)

/-- The rows of a column pair in traversal order: upward when ((col + 1) AND 2) = 0 (R220). -/
def zigzagRows (s col : Nat) : List Nat :=
  if (col + 1) &&& 2 = 0 then (List.range s).map fun t => s - 1 - t else List.range s

/-- p_0, p_1, ...: the data modules of the symbol in zig-zag order (R220). -/
def zigzag (mx : Matrix) (s : Nat) : List (Nat × Nat) :=
  (zigzagColumns s (s - 1)).flatMap fun col =>
    (zigzagRows s col).flatMap fun r =>
      [(r, col), (r, col - 1)].filter fun p => !(cellAt mx p.1 p.2).fn

/-! ### Format and version words -/

/-- The number of bits of a number, 0 for 0 (R240). -/
def bitlen (a : Nat) : Nat := if a = 0 then 0 else Nat.log2 a + 1

/-- R240's loop: while bitlen(a) >= bitlen(g), a <- a XOR (g << (bitlen(a) - bitlen(g))). Each turn clears a's top bit, so
bitlen(a) turns are enough. -/
def polymodLoop (g : Nat) : Nat → Nat → Nat
  | 0, a => a
  | fuel + 1, a => if bitlen g ≤ bitlen a then polymodLoop g fuel (a ^^^ (g <<< (bitlen a - bitlen g))) else a

/-- The remainder of a divided by g as polynomials over GF(2) (R240). -/
def polymod (a g : Nat) : Nat := polymodLoop g (bitlen a) a

/-- The two-bit error-correction code of a level ordinal (R239). -/
def levelCode (level : BitVec 2) : Nat :=
  match level with
  | 0#2 => 0b01
  | 1#2 => 0b00
  | 2#2 => 0b11
  | 3#2 => 0b10

/-- The format word F(level, m) (R240). -/
def formatWord (level : BitVec 2) (m : BitVec 3) : BitVec 15 :=
  let d5 := (levelCode level <<< 3) ||| m.toNat
  BitVec.ofNat 15 (((d5 <<< 10) ||| polymod (d5 <<< 10) 0x537) ^^^ 0x5412)

/-- The version word V(v) (R242). -/
def versionWord (v : Nat) : BitVec 18 := BitVec.ofNat 18 ((v <<< 12) ||| polymod (v <<< 12) 0x1F25)

/-- Give the cells of a list the bits of a word: cell i is DARK when bit i is 1 and LIGHT when it is 0 (R241, R243). -/
def writeBits (bit : Nat → Bool) (cells : List (Nat × Nat)) (mx : Matrix) : Matrix :=
  cells.zipIdx.foldl (fun mx p => setVal mx p.1.1 p.1.2 (valOfBit (bit p.2))) mx

/-- Writing the format word, both copies (R241). -/
def writeFormat (s : Nat) (f : BitVec 15) (mx : Matrix) : Matrix :=
  writeBits f.getLsbD (formatCopy2 s) (writeBits f.getLsbD formatCopy1 mx)

/-- Writing the version word, both blocks (R243). -/
def writeVersion (s : Nat) (w : BitVec 18) (mx : Matrix) : Matrix :=
  writeBits w.getLsbD (versionBlockB s) (writeBits w.getLsbD (versionBlockA s) mx)

end Sys2Proof.Machine
end

