-- ==== Sys2Proof/Machine/MaskOps.lean ====
section
/-! DEFINITION. The mask conditions (43_mask.md R260 to R263) and the penalty scorer (R264 to R269). -/

namespace Sys2Proof.Machine

/-! ### Masks -/

/-- cond(m, i, j), i the row and j the column (R260, R261). -/
def maskCond (m : BitVec 3) (i j : Nat) : Bool :=
  match m with
  | 0#3 => (i + j) % 2 == 0
  | 1#3 => i % 2 == 0
  | 2#3 => j % 3 == 0
  | 3#3 => (i + j) % 3 == 0
  | 4#3 => (i / 2 + j / 3) % 2 == 0
  | 5#3 => (i * j) % 2 + (i * j) % 3 == 0
  | 6#3 => ((i * j) % 2 + (i * j) % 3) % 2 == 0
  | 7#3 => ((i + j) % 2 + (i * j) % 3) % 2 == 0

/-- The flip of R262: DARK becomes LIGHT, anything else DARK. -/
def flipVal : CellVal → CellVal
  | .dark => .light
  | .light => .dark
  | .unset => .dark

/-- A cell of Masked(m): a data module of the symbol is flipped where the condition holds (R262, R263). -/
def maskedCell (mx : Matrix) (s : Nat) (m : BitVec 3) (r c : Nat) : Cell :=
  let x := cellAt mx r c
  if r < s ∧ c < s ∧ x.fn = false ∧ maskCond m r c = true then { x with val := flipVal x.val } else x

/-- Masked(m) (R263); ApplyMask(m) makes MX this matrix (R262). -/
def masked (mx : Matrix) (s : Nat) (m : BitVec 3) : Matrix := tabulate (maskedCell mx s m)

/-! ### The four penalty rules, on a square grid of rows; true is dark -/

/-- The scoring grid of a matrix: B(r, c) = 1 exactly when the cell is DARK, so an UNSET cell is light (R264). -/
def scoreGrid (g : Matrix) (s : Nat) : List (List Bool) :=
  (List.range s).map fun r => (List.range s).map fun c => (cellAt g r c).val == .dark

/-- Column c of a grid, top to bottom. -/
def gridColumn (b : List (List Bool)) (c : Nat) : List Bool := b.map fun row => row.getD c false

/-- The lines that rules 1 and 3 look at: the s rows, then the s columns (R265, R267). -/
def gridLines (b : List (List Bool)) : List (List Bool) := b ++ (List.range b.length).map (gridColumn b)

/-- What a maximal run of length L scores (R265). -/
def runScore (len : Nat) : Nat := if 5 ≤ len then 3 + (len - 5) else 0

/-- The score of a line's maximal runs, given that a run of `len` cells of colour `colour` has just been read. -/
def runsFrom (colour : Bool) (len : Nat) : List Bool → Nat
  | [] => runScore len
  | x :: xs => if x == colour then runsFrom colour (len + 1) xs else runScore len + runsFrom x 1 xs

/-- The score of a line's maximal runs (R265). -/
def lineRuns : List Bool → Nat
  | [] => 0
  | x :: xs => runsFrom x 1 xs

/-- N1, rule 1: runs (R265). -/
def penaltyRuns (b : List (List Bool)) : Nat := ((gridLines b).map lineRuns).sum

/-- The 2 × 2 windows of two adjacent rows: 3 for each of one colour (R266). -/
def pairBlocks : List Bool → List Bool → Nat
  | x :: x' :: xs, y :: y' :: ys => (if x == x' && x == y && x == y' then 3 else 0) + pairBlocks (x' :: xs) (y' :: ys)
  | _, _ => 0

/-- N2, rule 2: 2 × 2 blocks (R266). -/
def penaltyBlocks : List (List Bool) → Nat
  | row :: row' :: rows => pairBlocks row row' + penaltyBlocks (row' :: rows)
  | _ => 0

/-- The two 11-module sequences of rule 3 under P_PENALTY_VARIANT = ISO_WINDOW (R267). -/
def finderLike (w : List Bool) : Bool :=
  w == [true, false, true, true, true, false, true, false, false, false, false] ||
  w == [false, false, false, false, true, false, true, true, true, false, true]

/-- The windows of a line that match, 40 for each start k (R267). A window never extends past the line's end: a shorter
rest is no 11-module sequence. -/
def lineFinders : List Bool → Nat
  | [] => 0
  | x :: xs => (if finderLike ((x :: xs).take 11) then 40 else 0) + lineFinders xs

/-- N3, rule 3: finder-like sequences (R267). -/
def penaltyFinders (b : List (List Bool)) : Nat := ((gridLines b).map lineFinders).sum

/-- The number of dark cells of a grid (R268). -/
def countDark (b : List (List Bool)) : Nat := (b.map fun row => row.countP id).sum

/-- N4, rule 4: dark proportion (R268). -/
def penaltyDark (b : List (List Bool)) : Nat :=
  let t := b.length * b.length
  10 * (absDiff (20 * countDark b) (10 * t) / t)

/-- T(m), the sum of the four (R269). -/
def penaltyTotal (p : Penalty) : Nat := p.n1 + p.n2 + p.n3 + p.n4

/-- The four rules on a grid under P_PENALTY_VARIANT = ISO_WINDOW (R265 to R268). -/
def penaltyOf (b : List (List Bool)) : Penalty :=
  { n1 := penaltyRuns b, n2 := penaltyBlocks b, n3 := penaltyFinders b, n4 := penaltyDark b }

/-- The four penalties of a grid under a value of P_PENALTY_VARIANT (R9, R267; log 6). -/
def penaltyBy (variant : Config.PenaltyVariant) (b : List (List Bool)) : Penalty :=
  match variant with
  | .isoWindow => penaltyOf b
  | .other rules => rules b

/-- The matrix that is scored for mask m of a symbol of side s and version v (R264). UNSET_AS_LIGHT scores Masked(m) as it
is; WRITTEN writes the candidate's own format word, and version word, into a copy first (log 7). -/
def scoredMatrix (fmt : Config.ScoreFormat) (mx : Matrix) (s v : Nat) (m : BitVec 3) : Matrix :=
  match fmt with
  | .unsetAsLight => masked mx s m
  | .written level =>
    let g := writeFormat s (formatWord level m) (masked mx s m)
    if 7 ≤ v then writeVersion s (versionWord v) g else g

/-- Score(m) of a symbol (R269) under values of P_PENALTY_VARIANT and P_SCORE_FORMAT. -/
def scoreWith (variant : Config.PenaltyVariant) (fmt : Config.ScoreFormat) (mx : Matrix) (s v : Nat) (m : BitVec 3) : Penalty :=
  penaltyBy variant (scoreGrid (scoredMatrix fmt mx s v m) s)

/-- Score(m) as this hardware computes it (R269, P_PENALTY_VARIANT, P_SCORE_FORMAT). -/
def score (mx : Matrix) (s v : Nat) (m : BitVec 3) : Penalty :=
  scoreWith Config.pPenaltyVariant Config.pScoreFormat mx s v m

/-- The masks 0, ..., 7 in order. -/
def allMasks : List (BitVec 3) := [0#3, 1#3, 2#3, 3#3, 4#3, 5#3, 6#3, 7#3]

/-- The first mask of a list with the smallest total, or `best` if none has a smaller one (R271: ties go to the lowest index). -/
def bestOf (t : BitVec 3 → Nat) (best : BitVec 3) : List (BitVec 3) → BitVec 3
  | [] => best
  | m :: ms => bestOf t (if t m < t best then m else best) ms

/-- The smallest m with T_m = min(T_0, ..., T_7) (R271). -/
def bestMask (t : BitVec 3 → Nat) : BitVec 3 := bestOf t 0#3 allMasks

end Sys2Proof.Machine
end

