-- ==== Sys2Proof/Machine/Matrix.lean ====
section
/-! DEFINITION. The matrix unit's commands MINIT, MPLACE, MAPPLY, MFORMAT (42_matrix.md). -/

namespace Sys2Proof.Machine

/-- A symbol of version v started: function patterns placed, every MX_* and PEN_* register set, PHASE = FUNC (R230). -/
def startSymbol (v : Nat) (s : State) : State :=
  { s with
    mx := layout v
    mxVersion := BitVec.ofNat 6 v
    mxSize := BitVec.ofNat 8 (sideOf v)
    mxDatamod := BitVec.ofNat 15 (countData (layout v) (sideOf v))
    mxMask := 0#3
    mxMaskValid := false
    mxLevel := 0#2
    mxLevelValid := false
    mxFormat := 0#15
    mxVerinfo := 0#18
    penTotal := 0#32
    penN1 := 0#32
    penN2 := 0#32
    penN3 := 0#32
    penN4 := 0#32
    penMask := 0#3
    penM := Vector.replicate 8 0#32
    phase := .func }

/-- MINIT: start a symbol and place its function patterns (R230). -/
def execMinit (v : Byte) (s : State) : Host.Outcome State Fault Refusal :=
  if 1 ≤ immNat v ∧ immNat v ≤ Config.pVmax then
    .next (complete .none (startSymbol (immNat v) s))
  else .next (complete .mxVersion s)

/-- Bit b of the placed stream: bit 7 - (b mod 8) of codeword floor(b / 8), codewords from CW[src] on (R221). -/
def streamBit (s : State) (src b : Nat) : Bool := (cwByte s (src + b / 8)).getLsbD (7 - b % 8)

/-- What module p_b receives: its stream bit, or LIGHT for a remainder bit (R231, R222). -/
def placedVal (s : State) (src count b : Nat) : CellVal :=
  if b < 8 * count then valOfBit (streamBit s src b) else .light

/-- MX with the codeword stream placed: module p_b receives bit b, for b = 0, ..., D - 1 (R231). -/
def placedMatrix (s : State) (src count : Nat) : Matrix :=
  ((zigzag s.mx (symbolSide s)).take (symbolDatamod s)).zipIdx.foldl
    (fun mx p => setVal mx p.1.1 p.1.2 (placedVal s src count p.2)) s.mx

/-- MPLACE: place the codeword stream (R231). -/
def execMplace (s : State) : Host.Outcome State Fault Refusal :=
  if s.phase ≠ .func then .next (complete .mxPhase s)
  else if ¬(mplaceSrc s + mplaceCount s ≤ Config.pCwramBytes) then .next (complete .mxRange s)
  else if ¬(mplaceCount s = symbolDatamod s / 8) then .next (complete .mxCount s)
  else .next (complete .none { s with mx := placedMatrix s (mplaceSrc s) (mplaceCount s), phase := .placed })

/-- ApplyMask(m), with MX_MASK and PHASE as MAPPLY and MSELECT leave them (R262, R232, R271). -/
def applyMask (m : BitVec 3) (s : State) : State :=
  { s with mx := masked s.mx (symbolSide s) m, mxMask := m, mxMaskValid := true, phase := .masked }

/-- MAPPLY: apply a chosen mask (R232). -/
def execMapply (m : Byte) (s : State) : Host.Outcome State Fault Refusal :=
  if s.phase ≠ .placed then .next (complete .mxPhase s)
  else .next (complete .none (applyMask (maskOperand m) s))

/-- MX with the format word, and for v >= 7 the version word, written (R244). -/
def formattedMatrix (s : State) (f : BitVec 15) : Matrix :=
  if 7 ≤ symbolVersion s then
    writeVersion (symbolSide s) (versionWord (symbolVersion s)) (writeFormat (symbolSide s) f s.mx)
  else writeFormat (symbolSide s) f s.mx

/-- MX_VERINFO after MFORMAT (R244). -/
def verinfoOf (s : State) : BitVec 18 := if 7 ≤ symbolVersion s then versionWord (symbolVersion s) else 0#18

/-- MFORMAT: write format and version information and finish the symbol (R244). -/
def execMformat (l : Byte) (s : State) : Host.Outcome State Fault Refusal :=
  if s.phase ≠ .masked then .next (complete .mxPhase s)
  else
    let f := formatWord (levelOperand l) s.mxMask
    .next (complete .none
      { s with
        mx := formattedMatrix s f
        mxVerinfo := verinfoOf s
        mxFormat := f
        mxLevel := levelOperand l
        mxLevelValid := true
        phase := .final })

end Sys2Proof.Machine
end

