-- ==== Sys2Proof/Machine/Mask.lean ====
section
/-! DEFINITION. The mask unit's commands MSCORE and MSELECT (43_mask.md). -/

namespace Sys2Proof.Machine

/-- Score(m) of the symbol in MX (R269). -/
def scoreOf (s : State) (m : BitVec 3) : Penalty := score s.mx (symbolSide s) (symbolVersion s) m

/-- T(m) of the symbol in MX (R269). -/
def totalOf (s : State) (m : BitVec 3) : Nat := penaltyTotal (scoreOf s m)

/-- The PEN registers that hold one mask's breakdown (R49, R270). -/
def recordPenalty (m : BitVec 3) (p : Penalty) (s : State) : State :=
  { s with
    penN1 := BitVec.ofNat 32 p.n1
    penN2 := BitVec.ofNat 32 p.n2
    penN3 := BitVec.ofNat 32 p.n3
    penN4 := BitVec.ofNat 32 p.n4
    penTotal := BitVec.ofNat 32 (penaltyTotal p)
    penMask := m }

/-- MSCORE: score one mask without applying it (R270). -/
def execMscore (m : Byte) (s : State) : Host.Outcome State Fault Refusal :=
  if s.phase ≠ .placed then .next (complete .mxPhase s)
  else .next (complete .none (recordPenalty (maskOperand m) (scoreOf s (maskOperand m)) s))

/-- The mask MSELECT selects (R271). -/
def selectedMask (s : State) : BitVec 3 := bestMask (totalOf s)

/-- MSELECT: score all eight masks on the unmasked placement, apply the best, record the scores (R271). -/
def execMselect (s : State) : Host.Outcome State Fault Refusal :=
  if s.phase ≠ .placed then .next (complete .mxPhase s)
  else
    let best := selectedMask s
    let t := recordPenalty best (scoreOf s best) s
    .next (complete .none
      (applyMask best { t with penM := Vector.ofFn fun m => BitVec.ofNat 32 (totalOf s (BitVec.ofNat 3 m.val)) }))

end Sys2Proof.Machine
end

