-- ==== Sys2Proof/Machine/System.lean ====
section
/-! DEFINITION. The system command NOP (44_system.md R290). -/

namespace Sys2Proof.Machine

/-- NOP: completion and nothing else (R290). -/
def execNop (s : State) : Host.Outcome State Fault Refusal := .next (complete .none s)

end Sys2Proof.Machine
end

