-- ==== Sys2Proof/Machine/Dispatch.lean ====
section
/-! DEFINITION. The meaning of each command: one arm per constructor of Instr. -/

namespace Sys2Proof.Machine

def exec (i : Instr) (s : State) : Host.Outcome State Fault Refusal :=
  match i with
  | .nop => Sys2Proof.Machine.execNop s
  -- GF unit
  | .gfadd a b => Sys2Proof.Machine.execGfadd a b s
  | .gfmul a b => Sys2Proof.Machine.execGfmul a b s
  | .gfdiv a b => Sys2Proof.Machine.execGfdiv a b s
  | .gfinv a => Sys2Proof.Machine.execGfinv a s
  | .gfexp e => Sys2Proof.Machine.execGfexp e s
  | .gflog a => Sys2Proof.Machine.execGflog a s
  -- RS unit
  | .rsgen n => Sys2Proof.Machine.execRsgen n s
  | .rsenc k n => Sys2Proof.Machine.execRsenc k n s
  -- matrix and mask units
  | .minit v => Sys2Proof.Machine.execMinit v s
  | .mplace => Sys2Proof.Machine.execMplace s
  | .mapply m => Sys2Proof.Machine.execMapply m s
  | .mscore m => Sys2Proof.Machine.execMscore m s
  | .mselect => Sys2Proof.Machine.execMselect s
  | .mformat l => Sys2Proof.Machine.execMformat l s

end Sys2Proof.Machine
end

