-- ==== Sys2Proof/Machine/Host.lean ====
section
/-! DEFINITION. What a host program is made of: the assembler's operands and words (30_encoding.md R129), and the
pseudo-operations as lists of inputs (R130). The text form (numerals, commas, comments) is not modelled (log 13). -/

namespace Sys2Proof.Machine

/-- An assembler operand: a number, or one of the level letters of MFORMAT (R129). -/
inductive AsmOperand where
  | num (n : Nat)
  | levelL | levelM | levelQ | levelH
deriving DecidableEq, Repr

/-- An 8-bit operand; a value above 255 is refused (R129). -/
def asmByte : AsmOperand → Option Byte
  | .num n => if n ≤ 255 then some (BitVec.ofNat 8 n) else none
  | .levelL => none
  | .levelM => none
  | .levelQ => none
  | .levelH => none

/-- A mask operand; a mask above 7 is refused (R129). -/
def asmMask : AsmOperand → Option Byte
  | .num n => if n ≤ 7 then some (BitVec.ofNat 8 n) else none
  | .levelL => none
  | .levelM => none
  | .levelQ => none
  | .levelH => none

/-- A level operand: a letter or the ordinal; an ordinal above 3 is refused (R129, R127). -/
def asmLevel : AsmOperand → Option Byte
  | .num n => if n ≤ 3 then some (BitVec.ofNat 8 n) else none
  | .levelL => some 0#8
  | .levelM => some 1#8
  | .levelQ => some 2#8
  | .levelH => some 3#8

/-- The command of a mnemonic and its operands in FA, FB order (R129). -/
def assemble (mnemonic : String) (ops : List AsmOperand) : Option Instr :=
  match mnemonic, ops with
  | "NOP", [] => some .nop
  | "GFADD", [x, y] => (asmByte x).bind fun a => (asmByte y).map fun b => .gfadd a b
  | "GFMUL", [x, y] => (asmByte x).bind fun a => (asmByte y).map fun b => .gfmul a b
  | "GFDIV", [x, y] => (asmByte x).bind fun a => (asmByte y).map fun b => .gfdiv a b
  | "GFINV", [x] => (asmByte x).map .gfinv
  | "GFEXP", [x] => (asmByte x).map .gfexp
  | "GFLOG", [x] => (asmByte x).map .gflog
  | "RSGEN", [x] => (asmByte x).map .rsgen
  | "RSENC", [x, y] => (asmByte x).bind fun k => (asmByte y).map fun n => .rsenc k n
  | "MINIT", [x] => (asmByte x).map .minit
  | "MPLACE", [] => some .mplace
  | "MAPPLY", [x] => (asmMask x).map .mapply
  | "MSCORE", [x] => (asmMask x).map .mscore
  | "MSELECT", [] => some .mselect
  | "MFORMAT", [x] => (asmLevel x).map .mformat
  | _, _ => none

/-- The address of CMD (R34). -/
def cmdAddr : BusAddr := 0x00010#17

/-- The address of STATUS (R34). -/
def statusAddr : BusAddr := 0x00008#17

/-- WR32 A, v (R130). -/
def wr32 (a : BusAddr) (v : Word) : List Input := [.bus (.write a .four v)]

/-- RD32 A (R130). -/
def rd32 (a : BusAddr) : List Input := [.bus (.read a .four)]

/-- WR8 A, v (R130). -/
def wr8 (a : BusAddr) (v : Byte) : List Input := [.bus (.write a .one (v.setWidth 32))]

/-- RD8 A (R130). -/
def rd8 (a : BusAddr) : List Input := [.bus (.read a .one)]

/-- LOADCW a, b0, b1, ... (R130): WR8 0x01000 + a + i, bi for each i in order. DESIGN CHOICE (log 20): an address
0x01000 + a + i above 0x1FFFF, which the bus cannot express (R89) and to which the spec gives no meaning, is taken mod 2^17. -/
def loadCw (a : Nat) : List Byte → List Input
  | [] => []
  | b :: bs => wr8 (BitVec.ofNat 17 (0x01000 + a)) b ++ loadCw (a + 1) bs

/-- ISSUE <command> (R130): WR32 CMD, <encoded word>. -/
def issue (i : Instr) : List Input := wr32 cmdAddr (encode i)

/-- A bare command line (R130): ISSUE and then WAIT. -/
def command (i : Instr) : List Input := issue i ++ [.wait]

end Sys2Proof.Machine
end

