-- ==== Sys2Proof/Machine/Engine.lean ====
section
/-! DEFINITION. The two agents' steps (00_scope.md R16): the engine's whole command, and one host access. -/

namespace Sys2Proof.Machine

/-- The code a word that is no command completes with (30_encoding.md R125). -/
def decodeErrCode : DecodeError → ErrCode
  | .illegal => .illegal
  | .reserved => .reserved

/-- The engine's step for a pending command (44_system.md R293): decode LWORD, then run the command's rule, or complete with
the decoding error. -/
def engineStep (s : State) : Host.Outcome State Fault Refusal :=
  match decode s.lword with
  | .ok i => exec i s
  | .error e => .next (complete (decodeErrCode e) s)

/-- A turn of the engine: it has a step only when a command is pending (R16, R33). -/
def engineTurn (s : State) : Host.Outcome State Fault Refusal := if s.pend then engineStep s else .next s

/-- The state with one input taken. -/
def takeInput (rest : List Input) (s : State) : State := { s with inputs := rest }

/-- The step that an input calls for. A WAIT polls STATUS until BUSY = 0 (30_encoding.md R130): while a command is pending the
engine completes it and the host goes on polling; then the poll that reads BUSY = 0 ends it (log 2). -/
def inputStep (x : Input) (rest : List Input) (s : State) : Host.Outcome State Fault Refusal :=
  match x with
  | .bus op => .next (busAccess op (takeInput rest s))
  | .wait => if s.pend then engineStep s else .next (busAccess (.read statusAddr .four) (takeInput rest s))
  | .engineTurn => engineTurn (takeInput rest s)
  | .hardReset => .next (hardReset (takeInput rest s))

/-- The word `w` accepted as the next command, the engine's turn first (log 8). -/
def placeCommand (w : Word) (s : State) : State :=
  { acceptCommand w s with inputs := .engineTurn :: s.inputs }

end Sys2Proof.Machine
end

