-- ==== Sys2Proof/Machine/Step.lean ====
section
/-! DEFINITION. One step of QRSE, and how a command word is placed for the next step. -/

namespace Sys2Proof.Machine

/-- One step of one of the two agents (00_scope.md R16). The list of inputs says which moves (log 1). With no input left a
pending command completes (44_system.md R293: completion always happens); with none pending either, QRSE stays as it is
(log 3). -/
def step (s : State) : Host.Outcome State Fault Refusal :=
  match s.inputs with
  | [] => engineTurn s
  | x :: rest => inputStep x rest s

/-- The command whose bits are `w` (bits above `nbits` zero) placed where the next step runs it: QRSE fetches from no memory,
a command is ACCEPTED (44_system.md R291), so this is its acceptance, with the engine's turn next (log 8). -/
def State.withFetchWord (s : State) (nbits w : Nat) : State := placeCommand (BitVec.ofNat 32 (w % 2 ^ nbits)) s

end Sys2Proof.Machine
end

