-- ==== Sys2Proof/Safety.lean ====
section
/-! DEFINITION. The terms claims about QRSE are stated in: what a command leaves alone, what every step keeps, and the
mathematics the rules speak of (products in GF(256), polynomials, runs and windows of a grid), written from the rules and not
from the machine's own algorithms. -/

namespace Sys2Proof.Machine

/-! ### A clean run -/

/-- Nothing is recorded as gone wrong: no command error, no overrun, no rejected access (60_exceptions.md R302). -/
def clean (s : State) : Bool := !s.err && !s.ovr && !s.accerr

/-! ### What is left alone -/

/-- The state only the host changes: IRQEN, OVR, ACCERR, CMD, the operand registers, the latch's word and copies, and the
model's own fields. -/
def HostSideKept (s t : State) : Prop :=
  t.irqen = s.irqen ∧ t.ovr = s.ovr ∧ t.accerr = s.accerr ∧ t.cmd = s.cmd ∧
  t.rsSrc = s.rsSrc ∧ t.rsDst = s.rsDst ∧ t.plSrc = s.plSrc ∧ t.plCount = s.plCount ∧
  t.lword = s.lword ∧ t.lrsSrc = s.lrsSrc ∧ t.lrsDst = s.lrsDst ∧ t.lplSrc = s.lplSrc ∧ t.lplCount = s.lplCount ∧
  t.cwEpoch = s.cwEpoch ∧ t.inputs = s.inputs ∧ t.busData = s.busData

/-- Every byte of the codeword RAM reads as before. -/
def MemoryKept (s t : State) : Prop := ∀ a, cwByte t a = cwByte s a

/-- GEN and GEN_DEG are as before. -/
def GeneratorKept (s t : State) : Prop := t.genDeg = s.genDeg ∧ ∀ j, genAt t.gen j = genAt s.gen j

/-- The size registers of the symbol are as before. -/
def SymbolSizeKept (s t : State) : Prop :=
  t.mxVersion = s.mxVersion ∧ t.mxSize = s.mxSize ∧ t.mxDatamod = s.mxDatamod

/-- MX_ECLEVEL, MX_FORMAT and MX_VERINFO are as before. -/
def FormatRegsKept (s t : State) : Prop :=
  t.mxLevel = s.mxLevel ∧ t.mxLevelValid = s.mxLevelValid ∧ t.mxFormat = s.mxFormat ∧ t.mxVerinfo = s.mxVerinfo

/-- MX_MASK is as before. -/
def MaskRegKept (s t : State) : Prop := t.mxMask = s.mxMask ∧ t.mxMaskValid = s.mxMaskValid

/-- Every cell of MX is as before. -/
def CellsKept (s t : State) : Prop := ∀ r c, cellAt t.mx r c = cellAt s.mx r c

/-- PHASE, MX and every MX_* register are as before. -/
def SymbolKept (s t : State) : Prop :=
  t.phase = s.phase ∧ CellsKept s t ∧ SymbolSizeKept s t ∧ MaskRegKept s t ∧ FormatRegsKept s t

/-- PEN_TOTAL, PEN_N1..N4 and PEN_MASK are as before. -/
def BreakdownKept (s t : State) : Prop :=
  t.penTotal = s.penTotal ∧ t.penN1 = s.penN1 ∧ t.penN2 = s.penN2 ∧ t.penN3 = s.penN3 ∧ t.penN4 = s.penN4 ∧
  t.penMask = s.penMask

/-- Every PEN_* register is as before. -/
def PenaltyKept (s t : State) : Prop := BreakdownKept s t ∧ t.penM = s.penM

/-- Completion without error, as STATUS and ERRCODE show it (44_system.md R293). -/
def CompletedOk (t : State) : Prop := t.pend = false ∧ t.done = true ∧ t.err = false ∧ t.errcode = .none

/-! ### Invariants -/

/-- CMD and LWORD are one word; a pending command has no completion recorded; ERR says that ERRCODE is an error
(R37 to R39, R291, R305). -/
def ControlInv (s : State) : Prop :=
  s.lword = s.cmd ∧
  (s.pend = true → s.done = false ∧ s.err = false ∧ s.errcode = .none) ∧
  (s.err = true ↔ s.errcode ≠ .none)

/-- GEN holds the generator of degree GEN_DEG (R42). -/
def GeneratorInv (s : State) : Prop := s.genDeg.toNat ≤ Config.pNecMax ∧ s.gen = generator s.genDeg.toNat

/-- The codeword RAM keeps its canonical form. -/
def MemoryInv (s : State) : Prop := s.cw.wf = true

/-- PEN_TOTAL = PEN_N1 + PEN_N2 + PEN_N3 + PEN_N4 (R49). -/
def PenaltyInv (s : State) : Prop := s.penTotal = s.penN1 + s.penN2 + s.penN3 + s.penN4

/-- The size registers and the function-module marks are those of the symbol's version, and in phase EMPTY there is no symbol
(R44, R46, R210, R219, R226). -/
def SymbolInv (s : State) : Prop :=
  (s.phase = .empty → s.mxVersion = 0#6 ∧ s.mxSize = 0#8 ∧ s.mxDatamod = 0#15) ∧
  (s.phase ≠ .empty →
    1 ≤ symbolVersion s ∧ symbolVersion s ≤ Config.pVmax ∧
    symbolSide s = sideOf (symbolVersion s) ∧
    symbolDatamod s = countData (layout (symbolVersion s)) (sideOf (symbolVersion s)) ∧
    ∀ r c, (cellAt s.mx r c).fn = (cellAt (layout (symbolVersion s)) r c).fn)

/-- MX_MASK is valid exactly in MASKED and FINAL, MX_ECLEVEL exactly in FINAL; a register not yet written is 0; in FINAL the
format and version words are those of the level, the mask and the version (R47, R48, R230, R244). -/
def ResultInv (s : State) : Prop :=
  (s.mxMaskValid = true ↔ s.phase = .masked ∨ s.phase = .final) ∧
  (s.mxMaskValid = false → s.mxMask = 0#3) ∧
  (s.mxLevelValid = true ↔ s.phase = .final) ∧
  (s.phase ≠ .final → s.mxLevel = 0#2 ∧ s.mxFormat = 0#15 ∧ s.mxVerinfo = 0#18) ∧
  (s.phase = .final →
    s.mxFormat = formatWord s.mxLevel s.mxMask ∧
    s.mxVerinfo = if 7 ≤ symbolVersion s then versionWord (symbolVersion s) else 0#18)

/-- How far the symbol is filled in each phase (R219, R231, R244): in FUNC it is as MINIT left it; from PLACED on no data module
is UNSET; until MFORMAT the function modules are as MINIT left them; in FINAL no cell is UNSET. -/
def FilledInv (s : State) : Prop :=
  (s.phase = .func → s.mx = layout (symbolVersion s)) ∧
  (s.phase = .placed ∨ s.phase = .masked ∨ s.phase = .final →
    ∀ r c, r < symbolSide s → c < symbolSide s → (cellAt s.mx r c).fn = false → (cellAt s.mx r c).val ≠ .unset) ∧
  (s.phase = .placed ∨ s.phase = .masked →
    ∀ r c, (cellAt s.mx r c).fn = true → cellAt s.mx r c = cellAt (layout (symbolVersion s)) r c) ∧
  (s.phase = .final →
    ∀ r c, r < symbolSide s → c < symbolSide s → (cellAt s.mx r c).val ≠ .unset)

/-! ### Decoding, by the numbers of R124 and R126 -/

/-- From which bit upwards a word with this OPC must be 0 (the "zero" column of R124); none for an unassigned OPC (R126). -/
def zeroFrom (opc : Nat) : Option Nat :=
  if opc = 0x00 ∨ opc = 0x21 ∨ opc = 0x24 then some 8
  else if opc = 0x01 ∨ opc = 0x02 ∨ opc = 0x03 ∨ opc = 0x11 then some 24
  else if opc = 0x04 ∨ opc = 0x05 ∨ opc = 0x06 ∨ opc = 0x10 ∨ opc = 0x20 then some 16
  else if opc = 0x22 ∨ opc = 0x23 then some 11
  else if opc = 0x25 then some 10
  else none

/-! ### What control registers read, by the numbers of 10_state.md R34 to R50 and 60_exceptions.md R300 -/

/-- A flag in bit k of a register. -/
def flagAt (k : Nat) (b : Bool) : Nat := if b then 2 ^ k else 0

/-- The value of PHASE (R46). -/
def phaseNumber (p : Phase) : Nat :=
  match p with
  | .empty => 0
  | .func => 1
  | .placed => 2
  | .masked => 3
  | .final => 4

/-- The code of an error (R300). -/
def errNumber (e : ErrCode) : Nat :=
  match e with
  | .none => 0x00
  | .illegal => 0x01
  | .reserved => 0x02
  | .divZero => 0x03
  | .logZero => 0x04
  | .rsN => 0x10
  | .rsK => 0x11
  | .rsRange => 0x12
  | .mxVersion => 0x20
  | .mxPhase => 0x21
  | .mxCount => 0x22
  | .mxRange => 0x23

/-- What the register at this offset reads, as a number; PEN_M0..M7 stand at 0x60 + 4m (R34). -/
def registerValue (s : State) (offset : Nat) : Nat :=
  match offset with
  | 0x00 => 0x51525345
  | 0x04 => flagAt 0 s.irqen
  | 0x08 =>
    flagAt 0 s.pend + flagAt 1 s.done + flagAt 2 s.err + flagAt 3 s.ovr + flagAt 4 s.accerr + 2 ^ 8 * phaseNumber s.phase
  | 0x0C => errNumber s.errcode
  | 0x10 => s.cmd.toNat
  | 0x14 => s.gfR.toNat
  | 0x18 => s.rsSrc.toNat
  | 0x1C => s.rsDst.toNat
  | 0x20 => s.genDeg.toNat
  | 0x24 => s.plSrc.toNat
  | 0x28 => s.plCount.toNat
  | 0x2C => s.mxVersion.toNat
  | 0x30 => s.mxSize.toNat
  | 0x34 => s.mxDatamod.toNat
  | 0x38 => s.mxMask.toNat + flagAt 8 s.mxMaskValid
  | 0x3C => s.mxLevel.toNat + flagAt 8 s.mxLevelValid
  | 0x40 => s.mxFormat.toNat
  | 0x44 => s.mxVerinfo.toNat
  | 0x48 => s.penTotal.toNat
  | 0x4C => s.penN1.toNat
  | 0x50 => s.penN2.toNat
  | 0x54 => s.penN3.toNat
  | 0x58 => s.penN4.toNat
  | 0x5C => s.penMask.toNat
  | _ => (s.penM.toList.getD ((offset - 0x60) / 4) 0#32).toNat

/-! ### Moves of PHASE and resets -/

/-- Command i moves PHASE from p to q along the construction order (10_state.md R46). -/
def ConstructionMove (i : Instr) (p q : Phase) : Prop :=
  (q = .func ∧ ∃ v, i = .minit v) ∨
  (p = .func ∧ q = .placed ∧ i = .mplace) ∨
  (p = .placed ∧ q = .masked ∧ (i = .mselect ∨ ∃ m, i = .mapply m)) ∨
  (p = .masked ∧ q = .final ∧ ∃ l, i = .mformat l)

/-- This input is a reset: the platform's (R340), or a 4-byte write to CTRL with SRST = 1 (R341). -/
def IsReset (x : Input) : Prop := x = .hardReset ∨ ∃ w : Word, w.getLsbD 1 = true ∧ x = .bus (.write 0x00004#17 .four w)

/-! ### Rejected accesses, by the wording of 20_memory.md R82 to R90 -/

/-- The registers a host may write (10_state.md R34): CTRL, STATUS, CMD, RS_SRC, RS_DST, PL_SRC, PL_COUNT. -/
def writableOffsets : List Nat := [0x04, 0x08, 0x10, 0x18, 0x1C, 0x24, 0x28]

/-- An access of n bytes at address a is rejected whatever its direction: misaligned (R82), not 4 bytes wide in the control
page (R84), at a reserved offset (R53), unmapped (R89), or in a buffer while BUSY (R88). -/
def RejectedEither (a n : Nat) (busy : Bool) : Prop :=
  a % n ≠ 0 ∨ (a < 0x100 ∧ n ≠ 4) ∨ (0x80 ≤ a ∧ a < 0x100) ∨ (0x400 ≤ a ∧ a < 0x1000) ∨ (0x2000 ≤ a ∧ a < 0x10000) ∨
  (busy = true ∧ ((0x100 ≤ a ∧ a < 0x200) ∨ (0x1000 ≤ a ∧ a < 0x2000) ∨ 0x10000 ≤ a))

/-- A write is rejected: as any access, or to a read-only register (R53) or a read-only window (R85, R86). -/
def RejectedWrite (a n : Nat) (busy : Bool) : Prop :=
  RejectedEither a n busy ∨ (a < 0x80 ∧ a ∉ writableOffsets) ∨ (0x100 ≤ a ∧ a < 0x400) ∨ 0x10000 ≤ a

/-! ### The symbol's modules, by the wording of 42_matrix.md R211 to R220 -/

/-- max(|r - r0|, |c - c0|) on integers (R211, R214). -/
def distance (r c r0 c0 : Nat) : Nat := max (Int.natAbs ((r : Int) - r0)) (Int.natAbs ((c : Int) - c0))

/-- (r0, c0) is the centre of an alignment pattern of version v: (P[a], P[b]) for a pair of indices that is not skipped (R214). -/
def AlignmentCentre (v r0 c0 : Nat) : Prop :=
  ∃ a b, (alignCoords v)[a]? = some r0 ∧ (alignCoords v)[b]? = some c0 ∧
    (a, b) ≠ (0, 0) ∧ (a, b) ≠ (0, (alignCoords v).length - 1) ∧ (a, b) ≠ ((alignCoords v).length - 1, 0)

/-- Cell (r, c) is set or reserved by R211, R212, R214, R216, R217 or R218 in a symbol of version v (R219). -/
def FunctionModule (v r c : Nat) : Prop :=
  (r ≤ 7 ∧ c ≤ 7) ∨ (r ≤ 7 ∧ sideOf v - 8 ≤ c) ∨ (sideOf v - 8 ≤ r ∧ c ≤ 7) ∨
  (r = 6 ∧ 8 ≤ c ∧ c ≤ sideOf v - 9) ∨ (c = 6 ∧ 8 ≤ r ∧ r ≤ sideOf v - 9) ∨
  (∃ r0 c0, AlignmentCentre v r0 c0 ∧ distance r c r0 c0 ≤ 2) ∨
  (r, c) ∈ formatCopy1 ∨ (r, c) ∈ formatCopy2 (sideOf v) ∨ (r = sideOf v - 8 ∧ c = 8) ∨
  (7 ≤ v ∧ ∃ i < 18, (r, c) = (i / 3, sideOf v - 11 + i % 3) ∨ (r, c) = (sideOf v - 11 + i % 3, i / 3))

/-- When the zig-zag visits cell (r, c) of a symbol of side s, were every cell visited (R220): column pair k from the right,
column 6 left out; within a pair the row, upward for even k and downward for odd k; within a row the right cell first. -/
def visitRank (s r c : Nat) : Nat :=
  let fromRight := if c < 6 then s - 2 - c else s - 1 - c
  let k := fromRight / 2
  (k * s + (if k % 2 = 0 then s - 1 - r else r)) * 2 + fromRight % 2

/-! ### GF(256) and polynomials over it -/

/-- The product of two polynomials over GF(2), bit i the coefficient of x^i (40_gf.md R150). -/
def carrylessProduct (a b : Nat) : Nat :=
  (List.range 8).foldl (fun acc i => if b.testBit i then acc ^^^ (a <<< i) else acc) 0

/-- The product of two field elements: the carry-less product reduced modulo P_FIELD_POLY = 0x11D (R150, R152). -/
def fieldProduct (a b : Byte) : Byte := BitVec.ofNat 8 (polymod (carrylessProduct a.toNat b.toNat) Config.pFieldPoly)

/-- α^n, α = P_ALPHA (R151, D5). -/
def alphaPow : Nat → Byte
  | 0 => 0x01#8
  | n + 1 => fieldProduct (alphaPow n) Config.pAlpha

/-- The value at x of the polynomial with these coefficients, highest degree first (Horner; 41_rs.md R180, R186). -/
def polyValue (coeffs : List Byte) (x : Byte) : Byte := coeffs.foldl (fun acc d => fieldProduct acc x ^^^ d) 0x00#8

/-- The coefficients GEN[30], ..., GEN[0], highest degree first (R42). -/
def genCoeffs (g : Vector Byte 31) : List Byte := (List.range 31).reverse.map (genAt g)

/-- (x ⊕ α^0)(x ⊕ α^1) ... (x ⊕ α^(n-1)) at x (R181). -/
def rootProduct (n : Nat) (x : Byte) : Byte :=
  (List.range n).foldl (fun acc i => fieldProduct acc (x ^^^ alphaPow i)) 0x01#8

/-- RSENC's operands are in range (R184). -/
def RsencAccepts (k n : Byte) (s : State) : Prop :=
  1 ≤ n.toNat ∧ n.toNat ≤ 30 ∧ 1 ≤ k.toNat ∧ k.toNat + n.toNat ≤ 255 ∧
  s.lrsSrc.toNat + k.toNat ≤ 4096 ∧ s.lrsDst.toNat + n.toNat ≤ 4096

/-! ### Level codes and mask conditions, by the tables of R239 and R260 -/

/-- The two-bit code of a level ordinal: L 0b01, M 0b00, Q 0b11, H 0b10 (42_matrix.md R239). -/
def ecCode (ordinal : Nat) : Nat :=
  if ordinal = 0 then 0b01 else if ordinal = 1 then 0b00 else if ordinal = 2 then 0b11 else 0b10

/-- Mask m selects the cell at row i and column j (43_mask.md R260). -/
abbrev MaskRule (m i j : Nat) : Prop :=
  (m = 0 ∧ (i + j) % 2 = 0) ∨
  (m = 1 ∧ i % 2 = 0) ∨
  (m = 2 ∧ j % 3 = 0) ∨
  (m = 3 ∧ (i + j) % 3 = 0) ∨
  (m = 4 ∧ (i / 2 + j / 3) % 2 = 0) ∨
  (m = 5 ∧ i * j % 2 + i * j % 3 = 0) ∨
  (m = 6 ∧ (i * j % 2 + i * j % 3) % 2 = 0) ∨
  (m = 7 ∧ ((i + j) % 2 + i * j % 3) % 2 = 0)

/-! ### The penalty rules by their wording -/

/-- Whether cell (r, c) counts as dark when mask m is scored (43_mask.md R263, R264): a data module the mask selects is flipped,
and an UNSET cell is light. -/
def darkUnder (mx : Matrix) (m : BitVec 3) (r c : Nat) : Bool :=
  let x := cellAt mx r c
  if x.fn = false ∧ MaskRule m.toNat r c then x.val != .dark else x.val == .dark

/-- Cells k, ..., k + len - 1 of a line of n cells are a maximal run of one colour (R265). -/
def maximalRun (line : Nat → Bool) (n k len : Nat) : Bool :=
  (List.range len).all (fun i => line (k + i) == line k) &&
  (k == 0 || line (k - 1) != line k) && (k + len == n || line (k + len) != line k)

/-- Rule 1 on one line of n cells: 3 + (L - 5) for each maximal run of length L >= 5 (R265). -/
def runsRule (line : Nat → Bool) (n : Nat) : Nat :=
  ((List.range n).map fun k =>
    ((List.range (n - k + 1)).map fun len =>
      if 5 ≤ len ∧ maximalRun line n k len = true then 3 + (len - 5) else 0).sum).sum

/-- Rule 2 on an n × n grid: 3 for each 2 × 2 window of one colour (R266). -/
def blocksRule (b : Nat → Nat → Bool) (n : Nat) : Nat :=
  ((List.range (n - 1)).map fun r =>
    ((List.range (n - 1)).map fun c =>
      if b r c = b r (c + 1) ∧ b r c = b (r + 1) c ∧ b r c = b (r + 1) (c + 1) then 3 else 0).sum).sum

/-- Rule 3 on one line of n cells: 40 for each start k with a finder-like window B[k..k+10] inside the line (R267). -/
def findersRule (line : Nat → Bool) (n : Nat) : Nat :=
  ((List.range (n - 10)).map fun k =>
    let w := (List.range 11).map fun i => line (k + i)
    if w = [true, false, true, true, true, false, true, false, false, false, false] ∨
       w = [false, false, false, false, true, false, true, true, true, false, true] then 40 else 0).sum

/-- The number of dark cells of an n × n grid (R268). -/
def darkCount (b : Nat → Nat → Bool) (n : Nat) : Nat :=
  ((List.range n).map fun r => (List.range n).countP fun c => b r c).sum

/-- Rules 1 and 3 look at every row and every column of an n × n grid (R265, R267). -/
def overLines (rule : (Nat → Bool) → Nat → Nat) (b : Nat → Nat → Bool) (n : Nat) : Nat :=
  ((List.range n).map fun r => rule (fun c => b r c) n).sum +
  ((List.range n).map fun c => rule (fun r => b r c) n).sum

/-- N1, ..., N4 of an n × n grid by the wording of R265 to R268. -/
def penaltyRules (b : Nat → Nat → Bool) (n : Nat) : Penalty where
  n1 := overLines runsRule b n
  n2 := blocksRule b n
  n3 := overLines findersRule b n
  n4 := 10 * (Int.natAbs (20 * (darkCount b n : Int) - 10 * ((n * n : Nat) : Int)) / (n * n))

/-- Score(m) of the symbol by the wording of the rules (R263 to R269). -/
def scoreRules (s : State) (m : BitVec 3) : Penalty := penaltyRules (darkUnder s.mx m) (symbolSide s)

end Sys2Proof.Machine
end

