-- ==== Sys2Proof/Certificates/Slice0/Obligations.lean ====
section
/-! DEFINITION. The statements about QRSE for the provers. Each docstring names the rules it formalises. -/

open Sys2Proof Sys2Proof.Machine

/-! ### Command words -/

/-- R128, R124: decoding the word of a well-formed command gives the command back, every operand at every value. -/
def Obligations.DecodeOfEncodeIsTheCommand : Prop :=
  ∀ i : Instr, WellFormed i = true → decode (encode i) = .ok i

/-- R124, R126: a word that decodes has one command, which is well formed and whose word it is. -/
def Obligations.DecodedWordsEncodeBack : Prop :=
  ∀ (w : Word) (i : Instr), decode w = .ok i → WellFormed i = true ∧ encode i = w

/-- R125: an unassigned opcode is E_ILLEGAL whatever the other bits; with an assigned one a nonzero bit of the zero set is
E_RESERVED; every other word is a command. -/
def Obligations.DecodingTakesTheFirstErrorThatApplies : Prop :=
  ∀ w : Word,
    (zeroFrom (w.toNat % 256) = none → decode w = .error .illegal) ∧
    (∀ k, zeroFrom (w.toNat % 256) = some k → w.toNat / 2 ^ k ≠ 0 → decode w = .error .reserved) ∧
    (∀ k, zeroFrom (w.toNat % 256) = some k → w.toNat / 2 ^ k = 0 → ∃ i, decode w = .ok i)

/-- R131: the spec's own example words decode to the commands they stand for. -/
def Obligations.PublishedWordsDecode : Prop :=
  decode 0x00000000#32 = .ok .nop ∧ decode 0x00CA5302#32 = .ok (.gfmul 0x53#8 0xCA#8) ∧
  decode 0x00000204#32 = .ok (.gfinv 0x02#8) ∧ decode 0x000A1011#32 = .ok (.rsenc 16#8 10#8) ∧
  decode 0x00000710#32 = .ok (.rsgen 7#8) ∧ decode 0x00002820#32 = .ok (.minit 40#8) ∧
  decode 0x00000522#32 = .ok (.mapply 5#8) ∧ decode 0x00000325#32 = .ok (.mformat 3#8) ∧
  decode 0x00000024#32 = .ok .mselect

/-! ### Steps -/

/-- R293: when a command is pending and its word decodes, the engine's step is the command's meaning: at an engine turn of the
schedule, when the host has nothing more to do, and while the host waits. When the turns fall is the model's choice (log 1, log 2). -/
def Obligations.StepRunsTheDecodedCommand : Prop :=
  ∀ (s : State) (i : Instr) (rest : List Input), s.pend = true → decode s.lword = .ok i →
    (s.inputs = .engineTurn :: rest → step s = exec i (takeInput rest s)) ∧
    (s.inputs = [] → step s = exec i s) ∧
    (s.inputs = .wait :: rest → step s = exec i s)

/-- R125, R305: a pending word that is no command completes with E_ILLEGAL or E_RESERVED and changes nothing else, at an engine turn
of the model's schedule (log 1). -/
def Obligations.StepCompletesUndecodableWords : Prop :=
  ∀ (s : State) (rest : List Input) (e : DecodeError), s.pend = true → s.inputs = .engineTurn :: rest →
    decode s.lword = .error e →
    ∃ code : ErrCode, (e = .illegal ∧ code = .illegal ∨ e = .reserved ∧ code = .reserved) ∧
      step s = .next { s with inputs := rest, pend := false, done := true, err := true, errcode := code }

/-- R291, R293: a host write of a command's word to CMD while idle, and then the engine's turn, run that command on the state
in which it was accepted. When the turn falls is the model's choice (log 1). -/
def Obligations.IssuedCommandRunsInItsTurn : Prop :=
  ∀ (s : State) (w : Word) (i : Instr) (rest : List Input), s.pend = false → decode w = .ok i →
    s.inputs = .bus (.write 0x00010#17 .four w) :: .engineTurn :: rest →
    ∃ t, step s = .next t ∧
      step t = exec i
        { s with
          inputs := rest, lword := w, cmd := w, lrsSrc := s.rsSrc, lrsDst := s.rsDst, lplSrc := s.plSrc,
          lplCount := s.plCount, done := false, err := false, errcode := .none, pend := true }

/-- R293, R302: no step of QRSE faults or is refused. That this follows from the spec is the model's reading (log 17, DEDUCED), and
that an idle state with no input has a step at all is the model's choice (log 3). -/
def Obligations.StepAlwaysGivesANextState : Prop := ∀ s : State, ∃ t, step s = .next t

/-- R293 (completion always happens), under the model's schedule (log 1): from any state with a command pending, within one step more
than there are inputs left the engine is idle, and either the command has completed or a reset was among the inputs taken (R341). -/
def Obligations.PendingCommandsComplete : Prop :=
  ∀ s : State, s.pend = true →
    ∃ (k : Nat) (t : State), k ≤ s.inputs.length + 1 ∧ Host.Core.run Sys2Proof.core k s = .next t ∧ t.pend = false ∧
      (t.done = true ∨ ∃ x, x ∈ s.inputs.take k ∧ IsReset x)

/-! ### NOP and the GF unit -/

/-- R290, R305: NOP changes the completion state and nothing else. -/
def Obligations.NopOnlyCompletes : Prop :=
  ∀ s : State, exec .nop s = .next { s with pend := false, done := true, err := false, errcode := .none }

/-- R155: GFADD's result is the exclusive or of its operands. -/
def Obligations.GfaddXorsItsOperands : Prop :=
  ∀ (a b : Byte) (s : State),
    exec (.gfadd a b) s =
      .next { s with gfR := a ^^^ b, pend := false, done := true, err := false, errcode := .none }

/-- R152, R156: GFMUL's result is the carry-less product reduced modulo 0x11D, for all operand pairs. -/
def Obligations.GfmulIsTheReducedCarrylessProduct : Prop :=
  ∀ (a b : Byte) (s : State),
    exec (.gfmul a b) s =
      .next { s with gfR := fieldProduct a b, pend := false, done := true, err := false, errcode := .none }

/-- R153, R157: a divisor 0 is E_DIVZERO; else GFDIV's result times the divisor is the dividend. -/
def Obligations.GfdivUndoesMultiplication : Prop :=
  ∀ (a b : Byte) (s : State),
    (b = 0x00#8 → exec (.gfdiv a b) s =
      .next { s with pend := false, done := true, err := true, errcode := .divZero }) ∧
    (b ≠ 0x00#8 → ∃ q, fieldProduct q b = a ∧
      exec (.gfdiv a b) s = .next { s with gfR := q, pend := false, done := true, err := false, errcode := .none })

/-- R154, R158: the operand 0 is E_DIVZERO; else GFINV's result times the operand is 1. -/
def Obligations.GfinvIsTheInverse : Prop :=
  ∀ (a : Byte) (s : State),
    (a = 0x00#8 → exec (.gfinv a) s =
      .next { s with pend := false, done := true, err := true, errcode := .divZero }) ∧
    (a ≠ 0x00#8 → ∃ q, fieldProduct a q = 0x01#8 ∧
      exec (.gfinv a) s = .next { s with gfR := q, pend := false, done := true, err := false, errcode := .none })

/-- R159: GFEXP's result is α^(e mod 255), the power taken by repeated multiplication in the field. -/
def Obligations.GfexpIsAPowerOfAlpha : Prop :=
  ∀ (e : Byte) (s : State),
    exec (.gfexp e) s =
      .next { s with
        gfR := alphaPow (e.toNat % 255), pend := false, done := true, err := false, errcode := .none }

/-- R160: the operand 0 is E_LOGZERO; else GFLOG's result is the exponent, at most 254, that gives the operand back. -/
def Obligations.GflogIsTheDiscreteLogarithm : Prop :=
  ∀ (a : Byte) (s : State),
    (a = 0x00#8 → exec (.gflog a) s =
      .next { s with pend := false, done := true, err := true, errcode := .logZero }) ∧
    (a ≠ 0x00#8 → ∃ l : Byte, l.toNat ≤ 254 ∧ alphaPow l.toNat = a ∧
      exec (.gflog a) s = .next { s with gfR := l, pend := false, done := true, err := false, errcode := .none })

/-- R161: the laws of the field, of the unit's own ⊗, ⊘, inv and LOG. -/
def Obligations.GfUnitObeysTheFieldLaws : Prop :=
  ∀ a b c : Byte,
    (a ^^^ b = b ^^^ a ∧ (a ^^^ b) ^^^ c = a ^^^ (b ^^^ c) ∧ a ^^^ 0x00#8 = a ∧ a ^^^ a = 0x00#8) ∧
    (gfMul a b = gfMul b a ∧ gfMul (gfMul a b) c = gfMul a (gfMul b c) ∧ gfMul 0x01#8 a = a ∧ gfMul 0x00#8 a = 0x00#8 ∧
      gfMul a (b ^^^ c) = gfMul a b ^^^ gfMul a c) ∧
    (b ≠ 0x00#8 → gfDiv a b = gfMul a (gfInv b)) ∧
    (a ≠ 0x00#8 → b ≠ 0x00#8 → (logAt (gfMul a b)).toNat = ((logAt a).toNat + (logAt b).toNat) % 255)

/-! ### The RS unit -/

/-- R181, R183: RSGEN n with 1 <= n <= 30 leaves in GEN the monic polynomial of degree n whose value at every field element x
is (x ⊕ α^0) ... (x ⊕ α^(n-1)), entries above n being 0, and changes nothing else but GEN_DEG and the completion state. -/
def Obligations.RsgenBuildsTheProductOfItsRoots : Prop :=
  ∀ (n : Byte) (s : State), 1 ≤ n.toNat → n.toNat ≤ 30 →
    ∃ g : Vector Byte 31,
      exec (.rsgen n) s =
        .next { s with gen := g, genDeg := n, pend := false, done := true, err := false, errcode := .none } ∧
      genAt g n.toNat = 0x01#8 ∧ (∀ j, n.toNat < j → genAt g j = 0x00#8) ∧
      ∀ x, polyValue (genCoeffs g) x = rootProduct n.toNat x

/-- R184, R186: for operands in range RSENC completes, and data and correction codewords together are a polynomial that
vanishes at α^0, ..., α^(n-1); its generator is the one RSGEN n builds. -/
def Obligations.RsencMakesACodewordOfItsBlock : Prop :=
  ∀ (k n : Byte) (s : State), RsencAccepts k n s →
    ∃ t, exec (.rsenc k n) s = .next t ∧ CompletedOk t ∧
      (∀ i, i < n.toNat →
        polyValue (cwBlock s s.lrsSrc.toNat k.toNat ++ cwBlock t s.lrsDst.toNat n.toNat) (alphaPow i) = 0x00#8) ∧
      t.genDeg = n ∧ ∀ u, exec (.rsgen n) s = .next u → t.gen = u.gen

/-- R185: the correction codewords are the remainder of the data codewords as they stood at the start, wherever source and
destination lie; no byte of CW outside the destination is written. -/
def Obligations.RsencHasSnapshotSemantics : Prop :=
  ∀ (k n : Byte) (s : State), RsencAccepts k n s →
    ∃ t, exec (.rsenc k n) s = .next t ∧
      cwBlock t s.lrsDst.toNat n.toNat = remainder (generator n.toNat) n.toNat (cwBlock s s.lrsSrc.toNat k.toNat) ∧
      ∀ a, ¬(s.lrsDst.toNat ≤ a ∧ a < s.lrsDst.toNat + n.toNat) → cwByte t a = cwByte s a

/-! ### The matrix unit -/

/-- R230, R210, R226: MINIT v with 1 <= v <= 40 starts a symbol of side 4v + 17, counts its data modules, and clears every
register of an earlier symbol. -/
def Obligations.MinitStartsASymbol : Prop :=
  ∀ (v : Byte) (s : State), 1 ≤ v.toNat → v.toNat ≤ 40 →
    ∃ (mx : Matrix) (d : BitVec 15), d.toNat = countData mx (4 * v.toNat + 17) ∧
      exec (.minit v) s =
        .next { s with
          mx := mx, mxVersion := v.setWidth 6, mxSize := BitVec.ofNat 8 (4 * v.toNat + 17), mxDatamod := d,
          mxMask := 0#3, mxMaskValid := false, mxLevel := 0#2, mxLevelValid := false, mxFormat := 0#15,
          mxVerinfo := 0#18, penTotal := 0#32, penN1 := 0#32, penN2 := 0#32, penN3 := 0#32, penN4 := 0#32,
          penMask := 0#3, penM := Vector.replicate 8 0#32, phase := .func,
          pend := false, done := true, err := false, errcode := .none }

/-- R211: after MINIT the finders and separators stand around their three centres. -/
def Obligations.MinitPlacesFindersAndSeparators : Prop :=
  ∀ (v : Byte) (s t : State), 1 ≤ v.toNat → v.toNat ≤ 40 → exec (.minit v) s = .next t →
    ∀ r0 c0 r c : Nat,
      (r0, c0) = (3, 3) ∨ (r0, c0) = (3, sideOf v.toNat - 4) ∨ (r0, c0) = (sideOf v.toNat - 4, 3) →
      r < sideOf v.toNat → c < sideOf v.toNat → distance r c r0 c0 ≤ 4 →
      cellAt t.mx r c =
        { fn := true
          val := if distance r c r0 c0 = 0 ∨ distance r c r0 c0 = 1 ∨ distance r c r0 c0 = 3 then .dark else .light }

/-- R212: after MINIT row 6 and column 6 alternate between the separators, dark at even indices. -/
def Obligations.MinitPlacesTimingPatterns : Prop :=
  ∀ (v : Byte) (s t : State), 1 ≤ v.toNat → v.toNat ≤ 40 → exec (.minit v) s = .next t →
    ∀ i : Nat, 8 ≤ i → i ≤ sideOf v.toNat - 9 →
      cellAt t.mx 6 i = { fn := true, val := if i % 2 = 0 then .dark else .light } ∧
      cellAt t.mx i 6 = { fn := true, val := if i % 2 = 0 then .dark else .light }

/-- R214: after MINIT an alignment pattern stands around every centre that is not skipped. -/
def Obligations.MinitPlacesAlignmentPatterns : Prop :=
  ∀ (v : Byte) (s t : State), 1 ≤ v.toNat → v.toNat ≤ 40 → exec (.minit v) s = .next t →
    ∀ r0 c0 r c : Nat, AlignmentCentre v.toNat r0 c0 → distance r c r0 c0 ≤ 2 →
      cellAt t.mx r c = { fn := true, val := if distance r c r0 c0 = 1 then .light else .dark }

/-- R216, R217, R218: after MINIT both copies of the format cells, and for v >= 7 both blocks of version cells, are reserved,
and the dark module is dark. -/
def Obligations.MinitReservesFormatAndVersionCells : Prop :=
  ∀ (v : Byte) (s t : State), 1 ≤ v.toNat → v.toNat ≤ 40 → exec (.minit v) s = .next t →
    (∀ p, p ∈ formatCopy1 ++ formatCopy2 (sideOf v.toNat) → cellAt t.mx p.1 p.2 = { fn := true, val := .unset }) ∧
    cellAt t.mx (sideOf v.toNat - 8) 8 = { fn := true, val := .dark } ∧
    (7 ≤ v.toNat → ∀ i, i < 18 →
      cellAt t.mx (i / 3) (sideOf v.toNat - 11 + i % 3) = { fn := true, val := .unset } ∧
      cellAt t.mx (sideOf v.toNat - 11 + i % 3) (i / 3) = { fn := true, val := .unset })

/-- R219: after MINIT a cell of the symbol that none of R211 to R218 sets or reserves is a data module, UNSET, and every other
cell of the symbol is a function module; no other command changes a cell's mark. -/
def Obligations.MinitLeavesTheOtherCellsAsDataModules : Prop :=
  (∀ (v : Byte) (s t : State), 1 ≤ v.toNat → v.toNat ≤ 40 → exec (.minit v) s = .next t →
    ∀ r c : Nat, r < sideOf v.toNat → c < sideOf v.toNat →
      (FunctionModule v.toNat r c → (cellAt t.mx r c).fn = true) ∧
      (¬FunctionModule v.toNat r c → cellAt t.mx r c = { fn := false, val := .unset })) ∧
  (∀ (i : Instr) (s t : State), (∀ v, i ≠ .minit v) → exec i s = .next t →
    ∀ r c : Nat, (cellAt t.mx r c).fn = (cellAt s.mx r c).fn)

/-- R220: in a symbol as MINIT leaves it, the zig-zag visits exactly the data modules, in the order of the column pairs, each
once. -/
def Obligations.ZigzagVisitsEachDataModuleInOrder : Prop :=
  ∀ v : Nat, 1 ≤ v → v ≤ 40 →
    (zigzag (layout v) (sideOf v)).Pairwise
      (fun p q => visitRank (sideOf v) p.1 p.2 < visitRank (sideOf v) q.1 q.2) ∧
    (∀ r c, (r, c) ∈ zigzag (layout v) (sideOf v) ↔
      r < sideOf v ∧ c < sideOf v ∧ (cellAt (layout v) r c).fn = false) ∧
    (zigzag (layout v) (sideOf v)).length = countData (layout v) (sideOf v)

/-- R231, R221, R222: MPLACE in phase FUNC with its range and count right gives module p_b bit 7 - (b mod 8) of codeword
floor(b / 8), remainder modules LIGHT, and every other cell stays. -/
def Obligations.MplacePlacesTheCodewordStream : Prop :=
  ∀ s : State, s.phase = .func → s.lplSrc.toNat + s.lplCount.toNat ≤ 4096 →
    s.lplCount.toNat = s.mxDatamod.toNat / 8 → s.mxSize.toNat ≤ 177 →
    ∃ mx : Matrix,
      exec .mplace s =
        .next { s with mx := mx, phase := .placed, pend := false, done := true, err := false, errcode := .none } ∧
      (∀ (b : Nat) (p : Nat × Nat), b < s.mxDatamod.toNat → (zigzag s.mx s.mxSize.toNat)[b]? = some p →
        cellAt mx p.1 p.2 =
          { fn := false
            val :=
              if b < 8 * s.lplCount.toNat then
                if (cwByte s (s.lplSrc.toNat + b / 8)).getLsbD (7 - b % 8) then .dark else .light
              else .light }) ∧
      (∀ r c : Nat, (∀ b, b < s.mxDatamod.toNat → (zigzag s.mx s.mxSize.toNat)[b]? ≠ some (r, c)) →
        cellAt mx r c = cellAt s.mx r c)

/-- R232, R262: MAPPLY in phase PLACED flips exactly the data modules of the symbol its mask selects. -/
def Obligations.MapplyFlipsTheSelectedDataModules : Prop :=
  ∀ (m : Byte) (s : State), s.phase = .placed → s.mxSize.toNat ≤ 177 →
    ∃ mx : Matrix,
      exec (.mapply m) s =
        .next { s with
          mx := mx, mxMask := m.setWidth 3, mxMaskValid := true, phase := .masked,
          pend := false, done := true, err := false, errcode := .none } ∧
      ∀ r c : Nat,
        cellAt mx r c =
          if r < s.mxSize.toNat ∧ c < s.mxSize.toNat ∧ (cellAt s.mx r c).fn = false ∧
              MaskRule (m.toNat % 8) r c then
            { fn := false, val := if (cellAt s.mx r c).val = .dark then .light else .dark }
          else cellAt s.mx r c

/-- R240, R241, R244: MFORMAT in phase MASKED writes into both copies a word that, XOR 0x5412, has the level's code and the
mask in its five high bits and is divisible by the BCH generator 0x537. -/
def Obligations.MformatWritesTheFormatWord : Prop :=
  ∀ (l : Byte) (s : State), s.phase = .masked → 21 ≤ s.mxSize.toNat → s.mxSize.toNat ≤ 177 →
    ∃ (t : State) (f : BitVec 15), exec (.mformat l) s = .next t ∧ CompletedOk t ∧ t.phase = .final ∧
      t.mxFormat = f ∧ t.mxLevel = l.setWidth 2 ∧ t.mxLevelValid = true ∧
      (f ^^^ 0x5412#15).toNat / 1024 = ecCode (l.toNat % 4) * 8 + s.mxMask.toNat ∧
      polymod (f ^^^ 0x5412#15).toNat 0x537 = 0 ∧
      (∀ (i : Nat) (p : Nat × Nat),
        formatCopy1[i]? = some p ∨ (formatCopy2 s.mxSize.toNat)[i]? = some p →
        cellAt t.mx p.1 p.2 =
          { fn := (cellAt s.mx p.1 p.2).fn, val := if f.getLsbD i then .dark else .light })

/-- R242, R243, R244: for version 7 and above MFORMAT writes into both blocks a word with the version in its six high bits that
is divisible by 0x1F25; below 7 it writes no version cell and MX_VERINFO is 0. -/
def Obligations.MformatWritesTheVersionWord : Prop :=
  ∀ (l : Byte) (s : State), s.phase = .masked → 21 ≤ s.mxSize.toNat → s.mxSize.toNat ≤ 177 →
    ∃ t : State, exec (.mformat l) s = .next t ∧
      (7 ≤ s.mxVersion.toNat →
        t.mxVerinfo.toNat / 4096 = s.mxVersion.toNat ∧ polymod t.mxVerinfo.toNat 0x1F25 = 0 ∧
        ∀ i, i < 18 →
          (cellAt t.mx (i / 3) (s.mxSize.toNat - 11 + i % 3)).val = (if t.mxVerinfo.getLsbD i then .dark else .light) ∧
          (cellAt t.mx (s.mxSize.toNat - 11 + i % 3) (i / 3)).val = (if t.mxVerinfo.getLsbD i then .dark else .light)) ∧
      (s.mxVersion.toNat < 7 →
        t.mxVerinfo = 0#18 ∧
        ∀ r c, (r, c) ∉ formatCopy1 → (r, c) ∉ formatCopy2 s.mxSize.toNat → cellAt t.mx r c = cellAt s.mx r c)

/-! ### The mask unit -/

/-- R264 to R270: MSCORE in phase PLACED leaves in PEN_N1..N4 the four penalties as the rules word them, of the placement as
mask m would flip it, and changes no cell. -/
def Obligations.MscoreFollowsThePenaltyRules : Prop :=
  ∀ (m : Byte) (s : State), s.phase = .placed → s.mxSize.toNat ≤ 177 →
    exec (.mscore m) s =
      .next { s with
        penN1 := BitVec.ofNat 32 (scoreRules s (m.setWidth 3)).n1
        penN2 := BitVec.ofNat 32 (scoreRules s (m.setWidth 3)).n2
        penN3 := BitVec.ofNat 32 (scoreRules s (m.setWidth 3)).n3
        penN4 := BitVec.ofNat 32 (scoreRules s (m.setWidth 3)).n4
        penTotal := BitVec.ofNat 32 (penaltyTotal (scoreRules s (m.setWidth 3)))
        penMask := m.setWidth 3
        pend := false, done := true, err := false, errcode := .none }

/-- R271: MSELECT in phase PLACED selects the smallest mask with the smallest total of the rules, records every total and the
selected mask's breakdown, and flips what that mask selects. -/
def Obligations.MselectTakesTheLowestMinimum : Prop :=
  ∀ s : State, s.phase = .placed → s.mxSize.toNat ≤ 177 →
    ∃ t : State, exec .mselect s = .next t ∧ CompletedOk t ∧ t.phase = .masked ∧
      t.mxMask = t.penMask ∧ t.mxMaskValid = true ∧
      (∀ m, penaltyTotal (scoreRules s t.penMask) ≤ penaltyTotal (scoreRules s m)) ∧
      (∀ m, penaltyTotal (scoreRules s m) = penaltyTotal (scoreRules s t.penMask) → t.penMask.toNat ≤ m.toNat) ∧
      (∀ m : BitVec 3, t.penM[m.toNat]? = some (BitVec.ofNat 32 (penaltyTotal (scoreRules s m)))) ∧
      t.penN1 = BitVec.ofNat 32 (scoreRules s t.penMask).n1 ∧ t.penN2 = BitVec.ofNat 32 (scoreRules s t.penMask).n2 ∧
      t.penN3 = BitVec.ofNat 32 (scoreRules s t.penMask).n3 ∧ t.penN4 = BitVec.ofNat 32 (scoreRules s t.penMask).n4 ∧
      t.penTotal = BitVec.ofNat 32 (penaltyTotal (scoreRules s t.penMask)) ∧
      ∀ r c : Nat,
        cellAt t.mx r c =
          if r < s.mxSize.toNat ∧ c < s.mxSize.toNat ∧ (cellAt s.mx r c).fn = false ∧
              MaskRule t.penMask.toNat r c then
            { fn := false, val := if (cellAt s.mx r c).val = .dark then .light else .dark }
          else cellAt s.mx r c

/-- R269: the bounds of the four penalties, so that the register PEN_TOTAL holds the exact sum, below 2^22. -/
def Obligations.PenaltiesNeverOverflow : Prop :=
  ∀ (m : Byte) (s : State), s.phase = .placed → s.mxSize.toNat ≤ 177 →
    ∃ t : State, exec (.mscore m) s = .next t ∧
      t.penN1.toNat ≤ 2 * s.mxSize.toNat * (s.mxSize.toNat - 2) ∧
      t.penN2.toNat ≤ 3 * (s.mxSize.toNat - 1) ^ 2 ∧
      t.penN3.toNat ≤ 40 * (2 * s.mxSize.toNat * (s.mxSize.toNat - 10)) ∧
      t.penN4.toNat ≤ 100 ∧
      t.penTotal.toNat = t.penN1.toNat + t.penN2.toNat + t.penN3.toNat + t.penN4.toNat ∧ t.penTotal.toNat < 2 ^ 22

/-- R271, R272: what MSELECT scores, selects and writes is a function of the symbol in MX alone, whatever else the two states
hold. -/
def Obligations.SelectionDependsOnTheSymbolAlone : Prop :=
  ∀ s s' : State, s.phase = .placed → s'.phase = .placed → s.mxSize = s'.mxSize →
    (∀ r c, r < s.mxSize.toNat → c < s.mxSize.toNat → cellAt s.mx r c = cellAt s'.mx r c) →
    ∃ t t' : State, exec .mselect s = .next t ∧ exec .mselect s' = .next t' ∧
      t.penM = t'.penM ∧ BreakdownKept t t' ∧ t.mxMask = t'.mxMask ∧
      ∀ r c, r < s.mxSize.toNat → c < s.mxSize.toNat → cellAt t.mx r c = cellAt t'.mx r c

/-! ### Frames -/

/-- 40_gf.md section 2, R40, R290: NOP and the GF commands write nothing but GF_R and the completion state, NOP and a failed GF
command not even GF_R. -/
def Obligations.GfCommandsAndNopFrame : Prop :=
  ∀ (i : Instr) (s t : State),
    (i = .nop ∨ (∃ a b, i = .gfadd a b) ∨ (∃ a b, i = .gfmul a b) ∨ (∃ a b, i = .gfdiv a b) ∨ (∃ a, i = .gfinv a) ∨
      (∃ e, i = .gfexp e) ∨ (∃ a, i = .gflog a)) →
    exec i s = .next t →
    HostSideKept s t ∧ MemoryKept s t ∧ GeneratorKept s t ∧ SymbolKept s t ∧ PenaltyKept s t ∧
      (i = .nop ∨ t.err = true → t.gfR = s.gfR)

/-- R183: RSGEN writes nothing but GEN, GEN_DEG and the completion state, and on an error not even those two. -/
def Obligations.RsgenFrame : Prop :=
  ∀ (n : Byte) (s t : State), exec (.rsgen n) s = .next t →
    HostSideKept s t ∧ MemoryKept s t ∧ SymbolKept s t ∧ PenaltyKept s t ∧ t.gfR = s.gfR ∧
      (t.err = true → GeneratorKept s t)

/-- R185, R184: RSENC writes no CW byte outside [dst, dst + n - 1], where dst is the latch's LRS_DST, and nothing else but GEN,
GEN_DEG and the completion state; on an error it writes none of these. -/
def Obligations.RsencFrame : Prop :=
  ∀ (k n : Byte) (s t : State), exec (.rsenc k n) s = .next t →
    HostSideKept s t ∧ SymbolKept s t ∧ PenaltyKept s t ∧ t.gfR = s.gfR ∧
      (∀ a, ¬(rsencDst s ≤ a ∧ a < rsencDst s + n.toNat) → cwByte t a = cwByte s a) ∧
      (t.err = true → MemoryKept s t ∧ GeneratorKept s t)

/-- R230: MINIT leaves the host's side, CW, GEN and GF_R alone, and on an error the previous symbol and its scores too. -/
def Obligations.MinitFrame : Prop :=
  ∀ (v : Byte) (s t : State), exec (.minit v) s = .next t →
    HostSideKept s t ∧ MemoryKept s t ∧ GeneratorKept s t ∧ t.gfR = s.gfR ∧
      (t.err = true → SymbolKept s t ∧ PenaltyKept s t)

/-- R219, R231, R232, R262: MPLACE and MAPPLY change no function module, no cell's mark, and no register but PHASE, MX_MASK (MAPPLY
alone) and the completion state. -/
def Obligations.MplaceAndMapplyFrame : Prop :=
  ∀ (i : Instr) (s t : State), (i = .mplace ∨ ∃ m, i = .mapply m) → exec i s = .next t →
    HostSideKept s t ∧ MemoryKept s t ∧ GeneratorKept s t ∧ SymbolSizeKept s t ∧ FormatRegsKept s t ∧ PenaltyKept s t ∧
      t.gfR = s.gfR ∧ (i = .mplace → MaskRegKept s t) ∧
      (∀ r c, (cellAt t.mx r c).fn = (cellAt s.mx r c).fn) ∧
      (∀ r c, (cellAt s.mx r c).fn = true → cellAt t.mx r c = cellAt s.mx r c) ∧
      (t.err = true → SymbolKept s t)

/-- R219, R241, R243, R244: MFORMAT changes no cell's mark, no cell outside the format and version cells, and no register but PHASE,
MX_ECLEVEL, MX_FORMAT, MX_VERINFO and the completion state. -/
def Obligations.MformatFrame : Prop :=
  ∀ (l : Byte) (s t : State), exec (.mformat l) s = .next t →
    HostSideKept s t ∧ MemoryKept s t ∧ GeneratorKept s t ∧ SymbolSizeKept s t ∧ MaskRegKept s t ∧ PenaltyKept s t ∧
      t.gfR = s.gfR ∧
      (∀ r c, (cellAt t.mx r c).fn = (cellAt s.mx r c).fn) ∧
      (∀ r c, (r, c) ∉ formatCopy1 → (r, c) ∉ formatCopy2 s.mxSize.toNat →
        (∀ i, i < 18 → (r, c) ≠ (i / 3, s.mxSize.toNat - 11 + i % 3) ∧ (r, c) ≠ (s.mxSize.toNat - 11 + i % 3, i / 3)) →
        cellAt t.mx r c = cellAt s.mx r c) ∧
      (t.err = true → SymbolKept s t)

/-- R270, R271: MSCORE changes only the breakdown registers; MSELECT changes besides them PEN_M0..M7, MX_MASK, PHASE and data modules;
on an error neither changes any of these. -/
def Obligations.MscoreAndMselectFrame : Prop :=
  ∀ (i : Instr) (s t : State), (i = .mselect ∨ ∃ m, i = .mscore m) → exec i s = .next t →
    HostSideKept s t ∧ MemoryKept s t ∧ GeneratorKept s t ∧ SymbolSizeKept s t ∧ FormatRegsKept s t ∧ t.gfR = s.gfR ∧
      (i ≠ .mselect → SymbolKept s t ∧ t.penM = s.penM) ∧
      (∀ r c, (cellAt t.mx r c).fn = (cellAt s.mx r c).fn) ∧
      (∀ r c, (cellAt s.mx r c).fn = true → cellAt t.mx r c = cellAt s.mx r c) ∧
      (t.err = true → SymbolKept s t ∧ PenaltyKept s t)

/-! ### Rules over all commands -/

/-- R304: a command that completes with an error changes PEND, DONE, ERR and ERRCODE and nothing else, and fails the same way when
it is accepted and run again. -/
def Obligations.FailedCommandsWriteNothing : Prop :=
  ∀ (i : Instr) (s t : State), exec i s = .next t → t.err = true →
    t.errcode ≠ .none ∧ t = { s with pend := false, done := true, err := true, errcode := t.errcode } ∧
    exec i { t with pend := true, done := false, err := false, errcode := .none } = .next t

/-- R293, R305: every command completes, in every state, and ERR says whether ERRCODE is an error. -/
def Obligations.EveryCommandCompletes : Prop :=
  ∀ (i : Instr) (s : State), ∃ t : State, exec i s = .next t ∧ t.pend = false ∧ t.done = true ∧
    (t.err = true ↔ t.errcode ≠ .none)

/-- R303, R300: the checks of each command in the order of the table, each reported as its own code. Where LPL_SRC + LPL_COUNT is
4096 the range check passes, as R231 words it; a vector of 95_test_vectors.md section 4.4 says otherwise, and following the rule
is the model's reading (log 15). -/
def Obligations.ChecksFollowThePriorityTable : Prop :=
  ∀ s : State,
    (∀ a, exec (.gfdiv a 0#8) s = .next (complete .divZero s)) ∧
    exec (.gfinv 0#8) s = .next (complete .divZero s) ∧
    exec (.gflog 0#8) s = .next (complete .logZero s) ∧
    (∀ n : Byte, n.toNat = 0 ∨ 30 < n.toNat → exec (.rsgen n) s = .next (complete .rsN s)) ∧
    (∀ k n : Byte, n.toNat = 0 ∨ 30 < n.toNat → exec (.rsenc k n) s = .next (complete .rsN s)) ∧
    (∀ k n : Byte, 1 ≤ n.toNat → n.toNat ≤ 30 → k.toNat = 0 ∨ 255 < k.toNat + n.toNat →
      exec (.rsenc k n) s = .next (complete .rsK s)) ∧
    (∀ k n : Byte, 1 ≤ n.toNat → n.toNat ≤ 30 → 1 ≤ k.toNat → k.toNat + n.toNat ≤ 255 →
      4096 < s.lrsSrc.toNat + k.toNat ∨ 4096 < s.lrsDst.toNat + n.toNat →
      exec (.rsenc k n) s = .next (complete .rsRange s)) ∧
    (∀ v : Byte, v.toNat = 0 ∨ 40 < v.toNat → exec (.minit v) s = .next (complete .mxVersion s)) ∧
    (s.phase ≠ .func → exec .mplace s = .next (complete .mxPhase s)) ∧
    (s.phase = .func → 4096 < s.lplSrc.toNat + s.lplCount.toNat → exec .mplace s = .next (complete .mxRange s)) ∧
    (s.phase = .func → s.lplSrc.toNat + s.lplCount.toNat ≤ 4096 → s.lplCount.toNat ≠ s.mxDatamod.toNat / 8 →
      exec .mplace s = .next (complete .mxCount s)) ∧
    (s.phase ≠ .placed → (∀ m, exec (.mapply m) s = .next (complete .mxPhase s)) ∧
      (∀ m, exec (.mscore m) s = .next (complete .mxPhase s)) ∧ exec .mselect s = .next (complete .mxPhase s)) ∧
    (s.phase ≠ .masked → ∀ l, exec (.mformat l) s = .next (complete .mxPhase s))

/-- R46: PHASE moves only along the construction order, each move by its own command; a step moves it only so, by the pending command,
or to EMPTY, by a hardware reset or a CTRL write with SRST = 1. -/
def Obligations.PhaseMovesOnlyAlongTheConstruction : Prop :=
  (∀ (i : Instr) (s t : State), exec i s = .next t → t.phase = s.phase ∨ ConstructionMove i s.phase t.phase) ∧
  (∀ s t : State, step s = .next t →
    t.phase = s.phase ∨
    (s.pend = true ∧ ∃ i, decode s.lword = .ok i ∧ ConstructionMove i s.phase t.phase) ∨
    (t.phase = .empty ∧ ∃ x rest, s.inputs = x :: rest ∧ IsReset x))

/-- R123, R291: a command never reads the live operand registers: whatever the host has written there since, the command does the
same and leaves them alone. -/
def Obligations.CommandsUseTheLatchedOperands : Prop :=
  ∀ (i : Instr) (s t : State) (a b c d : CwOffset), exec i s = .next t →
    exec i { s with rsSrc := a, rsDst := b, plSrc := c, plCount := d } =
      .next { t with rsSrc := a, rsDst := b, plSrc := c, plCount := d }

/-- R310, R311: completion leaves IRQ equal to IRQEN; acceptance and reset lower it; a host write of 1 to DONE lowers it. -/
def Obligations.InterruptFollowsCompletion : Prop :=
  ∀ s : State,
    (∀ (i : Instr) (t : State), exec i s = .next t → irq t = s.irqen) ∧
    (s.pend = false → ∀ w, irq (busAccess (.write 0x00010#17 .four w) s) = false) ∧
    (∀ w, w.getLsbD 1 = true →
      irq (busAccess (.write 0x00008#17 .four w) s) = false ∧ irq (busAccess (.write 0x00004#17 .four w) s) = false) ∧
    (∀ w, w.getLsbD 1 = false → irq (busAccess (.write 0x00004#17 .four w) s) = (w.getLsbD 0 && s.done))

/-! ### The host bus -/

/-- R90, R82 to R89, R53: a rejected access writes nothing, reads 0 and sets ACCERR; an access that is not rejected never sets
ACCERR, and a read that is not rejected changes nothing. -/
def Obligations.RejectedAccessesOnlySetAccerr : Prop :=
  ∀ (a : BusAddr) (n : Size) (w : Word) (s : State),
    (RejectedEither a.toNat (sizeBytes n) s.pend →
      busAccess (.read a n) s = { s with busData := 0#32, accerr := true }) ∧
    (RejectedWrite a.toNat (sizeBytes n) s.pend → busAccess (.write a n w) s = { s with accerr := true }) ∧
    (¬RejectedEither a.toNat (sizeBytes n) s.pend →
      { busAccess (.read a n) s with busData := s.busData } = s) ∧
    (¬RejectedWrite a.toNat (sizeBytes n) s.pend → (busAccess (.write a n w) s).accerr = true → s.accerr = true)

/-- R81, R87, R91: a write to the codeword RAM that is not rejected stores byte i of its value at offset + i, no other byte
and no other state changes, and a read of the same place returns the value. -/
def Obligations.CodewordRamWritesReadBack : Prop :=
  ∀ (a : BusAddr) (n : Size) (w : Word) (s : State), s.pend = false → 0x01000 ≤ a.toNat → a.toNat < 0x02000 →
    a.toNat % sizeBytes n = 0 →
    (∀ i, i < sizeBytes n →
      cwByte (busAccess (.write a n w) s) (a.toNat - 0x01000 + i) = w.extractLsb' (8 * i) 8) ∧
    (∀ b, ¬(a.toNat - 0x01000 ≤ b ∧ b < a.toNat - 0x01000 + sizeBytes n) →
      cwByte (busAccess (.write a n w) s) b = cwByte s b) ∧
    { busAccess (.write a n w) s with cw := s.cw } = s ∧
    (busAccess (.read a n) (busAccess (.write a n w) s)).busData.toNat = w.toNat % 2 ^ (8 * sizeBytes n)

/-- R86: a read of the MATRIX window while idle shows the cells of the symbol: bit 0 DARK, bit 1 not UNSET, bit 2 function; 0
outside the symbol and in phase EMPTY; wider reads show the next cells of the row in increasing bytes. A write is rejected. -/
def Obligations.MatrixWindowShowsTheSymbol : Prop :=
  (∀ (r c i : Nat) (n : Size) (s : State), s.pend = false → r < 256 → c < 256 → c % sizeBytes n = 0 → i < sizeBytes n →
    ((busAccess (.read (BitVec.ofNat 17 (0x10000 + 256 * r + c)) n) s).busData).extractLsb' (8 * i) 8 =
      if s.mxSize.toNat ≤ r ∨ s.mxSize.toNat ≤ c + i ∨ s.phase = .empty then 0#8
      else
        BitVec.ofNat 8
          ((if (cellAt s.mx r (c + i)).val = .dark then 1 else 0) +
           (if (cellAt s.mx r (c + i)).val ≠ .unset then 2 else 0) +
           (if (cellAt s.mx r (c + i)).fn = true then 4 else 0))) ∧
  (∀ (a : BusAddr) (n : Size) (w : Word) (s : State), 0x10000 ≤ a.toNat →
    busAccess (.write a n w) s = { s with accerr := true })

/-- R85, R81, R151: byte i of an aligned read of n bytes in the EXP window is a power of α and in the LOG window the exponent that
gives the index back, BUSY or not; the GEN window reads GEN while idle, and 0 above entry 30, and is blocked while BUSY. A read
returns no more than its n bytes. A write to any of the three is rejected. -/
def Obligations.TableWindowsShowTheTables : Prop :=
  (∀ (j i : Nat) (n : Size) (s : State), j < 256 → j % sizeBytes n = 0 → i < sizeBytes n →
    ((busAccess (.read (BitVec.ofNat 17 (0x00200 + j)) n) s).busData).extractLsb' (8 * i) 8 = alphaPow ((j + i) % 255) ∧
    (j + i = 0 → ((busAccess (.read (BitVec.ofNat 17 (0x00300 + j)) n) s).busData).extractLsb' (8 * i) 8 = 0x00#8) ∧
    (j + i ≠ 0 → ∃ l : Nat, l ≤ 254 ∧ alphaPow l = BitVec.ofNat 8 (j + i) ∧
      ((busAccess (.read (BitVec.ofNat 17 (0x00300 + j)) n) s).busData).extractLsb' (8 * i) 8 = BitVec.ofNat 8 l) ∧
    (s.pend = false →
      ((busAccess (.read (BitVec.ofNat 17 (0x00100 + j)) n) s).busData).extractLsb' (8 * i) 8 =
        if h : j + i < 31 then s.gen[j + i] else 0x00#8)) ∧
  (∀ (a : BusAddr) (n : Size) (s : State), 0x00100 ≤ a.toNat → a.toNat < 0x00400 →
    (busAccess (.read a n) s).busData.toNat < 2 ^ (8 * sizeBytes n)) ∧
  (∀ (a : BusAddr) (n : Size) (s : State), 0x00100 ≤ a.toNat → a.toNat < 0x00200 → s.pend = true →
    busAccess (.read a n) s = { s with busData := 0#32, accerr := true }) ∧
  (∀ (a : BusAddr) (n : Size) (w : Word) (s : State), 0x00100 ≤ a.toNat → a.toNat < 0x00400 →
    busAccess (.write a n w) s = { s with accerr := true })

/-- R291, R292: a write of w to CMD while idle is accepted, with the operand copies taken; while BUSY it is dropped and sets OVR,
changing nothing else. -/
def Obligations.CommandWritesAreAcceptedOrDropped : Prop :=
  ∀ (w : Word) (s : State),
    (s.pend = false →
      busAccess (.write 0x00010#17 .four w) s =
        { s with
          lword := w, cmd := w, lrsSrc := s.rsSrc, lrsDst := s.rsDst, lplSrc := s.plSrc, lplCount := s.plCount,
          done := false, err := false, errcode := .none, pend := true }) ∧
    (s.pend = true → busAccess (.write 0x00010#17 .four w) s = { s with ovr := true })

/-- R34 to R50, R296, R300: in any state, BUSY or not, a 4-byte read of each control register returns the value of its fields at
their bit positions, reserved bits 0; and what a write to CTRL without SRST, to STATUS and to the operand registers does. -/
def Obligations.ControlRegistersReadAndWriteAsLaidOut : Prop :=
  ∀ (w : Word) (s : State),
    (∀ k, k < 32 →
      (busAccess (.read (BitVec.ofNat 17 (4 * k)) .four) s).busData.toNat = registerValue s (4 * k)) ∧
    (w.getLsbD 1 = false → busAccess (.write 0x00004#17 .four w) s = { s with irqen := w.getLsbD 0 }) ∧
    busAccess (.write 0x00008#17 .four w) s =
      { s with
        done := s.done && !w.getLsbD 1, ovr := s.ovr && !w.getLsbD 3, accerr := s.accerr && !w.getLsbD 4 } ∧
    busAccess (.write 0x00018#17 .four w) s = { s with rsSrc := w.setWidth 12 } ∧
    busAccess (.write 0x0001C#17 .four w) s = { s with rsDst := w.setWidth 12 } ∧
    busAccess (.write 0x00024#17 .four w) s = { s with plSrc := w.setWidth 12 } ∧
    busAccess (.write 0x00028#17 .four w) s = { s with plCount := w.setWidth 12 } ∧
    (∀ a : BusAddr, a ∈ [0x00018#17, 0x0001C#17, 0x00024#17, 0x00028#17] →
      (busAccess (.read a .four) (busAccess (.write a .four w) s)).busData.toNat = w.toNat % 4096)

/-! ### Reset -/

/-- R340, R34: after hardware reset every register reads its reset value, GEN is the generator 1, the MATRIX window reads 0, and none
of these reads sets ACCERR; the latch is 0. A hardware reset, an input of the model's schedule (log 1), leaves this state, but for
the free contents of CW (log 4), whatever the state before it; that its MX cells are blank, which R340 leaves unspecified, is the
model's choice (log 5). -/
def Obligations.ResetLeavesTheTableOfValues : Prop :=
  (∀ i : Fin 32,
    busAccess (.read (BitVec.ofNat 17 (4 * i.val)) .four) State.reset =
      { State.reset with busData := if i.val = 0 then 0x51525345#32 else 0#32 }) ∧
  (∀ j : Fin 256,
    busAccess (.read (BitVec.ofNat 17 (0x00100 + j.val)) .one) State.reset =
      { State.reset with busData := if j.val = 0 then 1#32 else 0#32 }) ∧
  (∀ j : Fin 65536,
    busAccess (.read (BitVec.ofNat 17 (0x10000 + j.val)) .one) State.reset = { State.reset with busData := 0#32 }) ∧
  State.reset.pend = false ∧ irq State.reset = false ∧ State.reset.lword = 0#32 ∧
  State.reset.lrsSrc = 0#12 ∧ State.reset.lrsDst = 0#12 ∧ State.reset.lplSrc = 0#12 ∧ State.reset.lplCount = 0#12 ∧
  (∀ (s : State) (rest : List Input), s.inputs = .hardReset :: rest →
    ∃ t, step s = .next t ∧ { t with cwEpoch := 0, inputs := [], busData := 0#32 } = State.reset ∧ t.inputs = rest)

/-- R341: a write to CTRL with SRST = 1, BUSY or not, gives every register its reset value, IRQEN included whatever the write's bit
0, abandons the pending command without a completion, and keeps every byte of CW. The cells of MX, which R340 leaves unspecified,
are left out of the equality (log 5). -/
def Obligations.SoftResetRestoresEveryRegister : Prop :=
  ∀ (w : Word) (s : State), w.getLsbD 1 = true →
    ∃ t, busAccess (.write 0x00004#17 .four w) s = t ∧
      { t with mx := State.reset.mx, cw := [], cwEpoch := 0, inputs := [], busData := 0#32 } = State.reset ∧
      (∀ a, cwByte t a = cwByte s a) ∧ t.pend = false ∧ t.done = false ∧ t.irqen = false ∧ irq t = false

/-! ### Invariants -/

/-- R340: the state after reset meets every invariant below. -/
def Obligations.ResetMeetsEveryInvariant : Prop :=
  ControlInv State.reset ∧ GeneratorInv State.reset ∧ MemoryInv State.reset ∧ PenaltyInv State.reset ∧
  SymbolInv State.reset ∧ ResultInv State.reset ∧ FilledInv State.reset

/-- R37 to R39, R42, R49: every step keeps the agreement of CMD with LWORD and of ERR with ERRCODE, the generator in GEN and the sum in
PEN_TOTAL; and the canonical form of the list of written CW bytes, below 4096 (R52), a form that is the model's choice (log 4). -/
def Obligations.StepKeepsTheRegisterInvariants : Prop :=
  ∀ s t : State, step s = .next t →
    (ControlInv s → ControlInv t) ∧ (GeneratorInv s → GeneratorInv t) ∧ (PenaltyInv s → PenaltyInv t) ∧
    (MemoryInv s → MemoryInv t)

/-- R44, R46 to R48, R210, R219, R226: every step keeps the size registers and function modules those of the symbol's version, and the
result registers valid exactly in the phases that have written them. -/
def Obligations.StepKeepsTheSymbolOfItsVersion : Prop :=
  ∀ s t : State, step s = .next t → SymbolInv s ∧ ResultInv s → SymbolInv t ∧ ResultInv t

/-- R219, R231, R244: every step keeps the symbol filled as far as its phase says: no data module UNSET from PLACED on, no cell UNSET
in FINAL. -/
def Obligations.StepKeepsTheSymbolFilled : Prop :=
  ∀ s t : State, step s = .next t → SymbolInv s ∧ FilledInv s → SymbolInv t ∧ FilledInv t
end

