-- ==== Sys2Proof/Laws/State.lean ====
section
/-! SUPPORT. One lemma per field per named update of State, each true by rfl, so that no proof unfolds a record update. -/

namespace Sys2Proof.Machine

variable (s : State)

/-! ### complete -/

@[simp] theorem complete_irqen (e : ErrCode) : (complete e s).irqen = s.irqen := rfl
@[simp] theorem complete_done (e : ErrCode) : (complete e s).done = true := rfl
@[simp] theorem complete_err (e : ErrCode) : (complete e s).err = (e != .none) := rfl
@[simp] theorem complete_ovr (e : ErrCode) : (complete e s).ovr = s.ovr := rfl
@[simp] theorem complete_accerr (e : ErrCode) : (complete e s).accerr = s.accerr := rfl
@[simp] theorem complete_phase (e : ErrCode) : (complete e s).phase = s.phase := rfl
@[simp] theorem complete_errcode (e : ErrCode) : (complete e s).errcode = e := rfl
@[simp] theorem complete_cmd (e : ErrCode) : (complete e s).cmd = s.cmd := rfl
@[simp] theorem complete_gfR (e : ErrCode) : (complete e s).gfR = s.gfR := rfl
@[simp] theorem complete_rsSrc (e : ErrCode) : (complete e s).rsSrc = s.rsSrc := rfl
@[simp] theorem complete_rsDst (e : ErrCode) : (complete e s).rsDst = s.rsDst := rfl
@[simp] theorem complete_genDeg (e : ErrCode) : (complete e s).genDeg = s.genDeg := rfl
@[simp] theorem complete_gen (e : ErrCode) : (complete e s).gen = s.gen := rfl
@[simp] theorem complete_plSrc (e : ErrCode) : (complete e s).plSrc = s.plSrc := rfl
@[simp] theorem complete_plCount (e : ErrCode) : (complete e s).plCount = s.plCount := rfl
@[simp] theorem complete_mxVersion (e : ErrCode) : (complete e s).mxVersion = s.mxVersion := rfl
@[simp] theorem complete_mxSize (e : ErrCode) : (complete e s).mxSize = s.mxSize := rfl
@[simp] theorem complete_mxDatamod (e : ErrCode) : (complete e s).mxDatamod = s.mxDatamod := rfl
@[simp] theorem complete_mx (e : ErrCode) : (complete e s).mx = s.mx := rfl
@[simp] theorem complete_mxMask (e : ErrCode) : (complete e s).mxMask = s.mxMask := rfl
@[simp] theorem complete_mxMaskValid (e : ErrCode) : (complete e s).mxMaskValid = s.mxMaskValid := rfl
@[simp] theorem complete_mxLevel (e : ErrCode) : (complete e s).mxLevel = s.mxLevel := rfl
@[simp] theorem complete_mxLevelValid (e : ErrCode) : (complete e s).mxLevelValid = s.mxLevelValid := rfl
@[simp] theorem complete_mxFormat (e : ErrCode) : (complete e s).mxFormat = s.mxFormat := rfl
@[simp] theorem complete_mxVerinfo (e : ErrCode) : (complete e s).mxVerinfo = s.mxVerinfo := rfl
@[simp] theorem complete_penTotal (e : ErrCode) : (complete e s).penTotal = s.penTotal := rfl
@[simp] theorem complete_penN1 (e : ErrCode) : (complete e s).penN1 = s.penN1 := rfl
@[simp] theorem complete_penN2 (e : ErrCode) : (complete e s).penN2 = s.penN2 := rfl
@[simp] theorem complete_penN3 (e : ErrCode) : (complete e s).penN3 = s.penN3 := rfl
@[simp] theorem complete_penN4 (e : ErrCode) : (complete e s).penN4 = s.penN4 := rfl
@[simp] theorem complete_penMask (e : ErrCode) : (complete e s).penMask = s.penMask := rfl
@[simp] theorem complete_penM (e : ErrCode) : (complete e s).penM = s.penM := rfl
@[simp] theorem complete_pend (e : ErrCode) : (complete e s).pend = false := rfl
@[simp] theorem complete_lword (e : ErrCode) : (complete e s).lword = s.lword := rfl
@[simp] theorem complete_lrsSrc (e : ErrCode) : (complete e s).lrsSrc = s.lrsSrc := rfl
@[simp] theorem complete_lrsDst (e : ErrCode) : (complete e s).lrsDst = s.lrsDst := rfl
@[simp] theorem complete_lplSrc (e : ErrCode) : (complete e s).lplSrc = s.lplSrc := rfl
@[simp] theorem complete_lplCount (e : ErrCode) : (complete e s).lplCount = s.lplCount := rfl
@[simp] theorem complete_cw (e : ErrCode) : (complete e s).cw = s.cw := rfl
@[simp] theorem complete_cwEpoch (e : ErrCode) : (complete e s).cwEpoch = s.cwEpoch := rfl
@[simp] theorem complete_inputs (e : ErrCode) : (complete e s).inputs = s.inputs := rfl
@[simp] theorem complete_busData (e : ErrCode) : (complete e s).busData = s.busData := rfl

/-! ### acceptCommand -/

@[simp] theorem acceptCommand_irqen (w : Word) : (acceptCommand w s).irqen = s.irqen := rfl
@[simp] theorem acceptCommand_done (w : Word) : (acceptCommand w s).done = false := rfl
@[simp] theorem acceptCommand_err (w : Word) : (acceptCommand w s).err = false := rfl
@[simp] theorem acceptCommand_ovr (w : Word) : (acceptCommand w s).ovr = s.ovr := rfl
@[simp] theorem acceptCommand_accerr (w : Word) : (acceptCommand w s).accerr = s.accerr := rfl
@[simp] theorem acceptCommand_phase (w : Word) : (acceptCommand w s).phase = s.phase := rfl
@[simp] theorem acceptCommand_errcode (w : Word) : (acceptCommand w s).errcode = .none := rfl
@[simp] theorem acceptCommand_cmd (w : Word) : (acceptCommand w s).cmd = w := rfl
@[simp] theorem acceptCommand_gfR (w : Word) : (acceptCommand w s).gfR = s.gfR := rfl
@[simp] theorem acceptCommand_rsSrc (w : Word) : (acceptCommand w s).rsSrc = s.rsSrc := rfl
@[simp] theorem acceptCommand_rsDst (w : Word) : (acceptCommand w s).rsDst = s.rsDst := rfl
@[simp] theorem acceptCommand_genDeg (w : Word) : (acceptCommand w s).genDeg = s.genDeg := rfl
@[simp] theorem acceptCommand_gen (w : Word) : (acceptCommand w s).gen = s.gen := rfl
@[simp] theorem acceptCommand_plSrc (w : Word) : (acceptCommand w s).plSrc = s.plSrc := rfl
@[simp] theorem acceptCommand_plCount (w : Word) : (acceptCommand w s).plCount = s.plCount := rfl
@[simp] theorem acceptCommand_mxVersion (w : Word) : (acceptCommand w s).mxVersion = s.mxVersion := rfl
@[simp] theorem acceptCommand_mxSize (w : Word) : (acceptCommand w s).mxSize = s.mxSize := rfl
@[simp] theorem acceptCommand_mxDatamod (w : Word) : (acceptCommand w s).mxDatamod = s.mxDatamod := rfl
@[simp] theorem acceptCommand_mx (w : Word) : (acceptCommand w s).mx = s.mx := rfl
@[simp] theorem acceptCommand_mxMask (w : Word) : (acceptCommand w s).mxMask = s.mxMask := rfl
@[simp] theorem acceptCommand_mxMaskValid (w : Word) : (acceptCommand w s).mxMaskValid = s.mxMaskValid := rfl
@[simp] theorem acceptCommand_mxLevel (w : Word) : (acceptCommand w s).mxLevel = s.mxLevel := rfl
@[simp] theorem acceptCommand_mxLevelValid (w : Word) : (acceptCommand w s).mxLevelValid = s.mxLevelValid := rfl
@[simp] theorem acceptCommand_mxFormat (w : Word) : (acceptCommand w s).mxFormat = s.mxFormat := rfl
@[simp] theorem acceptCommand_mxVerinfo (w : Word) : (acceptCommand w s).mxVerinfo = s.mxVerinfo := rfl
@[simp] theorem acceptCommand_penTotal (w : Word) : (acceptCommand w s).penTotal = s.penTotal := rfl
@[simp] theorem acceptCommand_penN1 (w : Word) : (acceptCommand w s).penN1 = s.penN1 := rfl
@[simp] theorem acceptCommand_penN2 (w : Word) : (acceptCommand w s).penN2 = s.penN2 := rfl
@[simp] theorem acceptCommand_penN3 (w : Word) : (acceptCommand w s).penN3 = s.penN3 := rfl
@[simp] theorem acceptCommand_penN4 (w : Word) : (acceptCommand w s).penN4 = s.penN4 := rfl
@[simp] theorem acceptCommand_penMask (w : Word) : (acceptCommand w s).penMask = s.penMask := rfl
@[simp] theorem acceptCommand_penM (w : Word) : (acceptCommand w s).penM = s.penM := rfl
@[simp] theorem acceptCommand_pend (w : Word) : (acceptCommand w s).pend = true := rfl
@[simp] theorem acceptCommand_lword (w : Word) : (acceptCommand w s).lword = w := rfl
@[simp] theorem acceptCommand_lrsSrc (w : Word) : (acceptCommand w s).lrsSrc = s.rsSrc := rfl
@[simp] theorem acceptCommand_lrsDst (w : Word) : (acceptCommand w s).lrsDst = s.rsDst := rfl
@[simp] theorem acceptCommand_lplSrc (w : Word) : (acceptCommand w s).lplSrc = s.plSrc := rfl
@[simp] theorem acceptCommand_lplCount (w : Word) : (acceptCommand w s).lplCount = s.plCount := rfl
@[simp] theorem acceptCommand_cw (w : Word) : (acceptCommand w s).cw = s.cw := rfl
@[simp] theorem acceptCommand_cwEpoch (w : Word) : (acceptCommand w s).cwEpoch = s.cwEpoch := rfl
@[simp] theorem acceptCommand_inputs (w : Word) : (acceptCommand w s).inputs = s.inputs := rfl
@[simp] theorem acceptCommand_busData (w : Word) : (acceptCommand w s).busData = s.busData := rfl

/-! ### takeInput -/

@[simp] theorem takeInput_irqen (rest : List Input) : (takeInput rest s).irqen = s.irqen := rfl
@[simp] theorem takeInput_done (rest : List Input) : (takeInput rest s).done = s.done := rfl
@[simp] theorem takeInput_err (rest : List Input) : (takeInput rest s).err = s.err := rfl
@[simp] theorem takeInput_ovr (rest : List Input) : (takeInput rest s).ovr = s.ovr := rfl
@[simp] theorem takeInput_accerr (rest : List Input) : (takeInput rest s).accerr = s.accerr := rfl
@[simp] theorem takeInput_phase (rest : List Input) : (takeInput rest s).phase = s.phase := rfl
@[simp] theorem takeInput_errcode (rest : List Input) : (takeInput rest s).errcode = s.errcode := rfl
@[simp] theorem takeInput_cmd (rest : List Input) : (takeInput rest s).cmd = s.cmd := rfl
@[simp] theorem takeInput_gfR (rest : List Input) : (takeInput rest s).gfR = s.gfR := rfl
@[simp] theorem takeInput_rsSrc (rest : List Input) : (takeInput rest s).rsSrc = s.rsSrc := rfl
@[simp] theorem takeInput_rsDst (rest : List Input) : (takeInput rest s).rsDst = s.rsDst := rfl
@[simp] theorem takeInput_genDeg (rest : List Input) : (takeInput rest s).genDeg = s.genDeg := rfl
@[simp] theorem takeInput_gen (rest : List Input) : (takeInput rest s).gen = s.gen := rfl
@[simp] theorem takeInput_plSrc (rest : List Input) : (takeInput rest s).plSrc = s.plSrc := rfl
@[simp] theorem takeInput_plCount (rest : List Input) : (takeInput rest s).plCount = s.plCount := rfl
@[simp] theorem takeInput_mxVersion (rest : List Input) : (takeInput rest s).mxVersion = s.mxVersion := rfl
@[simp] theorem takeInput_mxSize (rest : List Input) : (takeInput rest s).mxSize = s.mxSize := rfl
@[simp] theorem takeInput_mxDatamod (rest : List Input) : (takeInput rest s).mxDatamod = s.mxDatamod := rfl
@[simp] theorem takeInput_mx (rest : List Input) : (takeInput rest s).mx = s.mx := rfl
@[simp] theorem takeInput_mxMask (rest : List Input) : (takeInput rest s).mxMask = s.mxMask := rfl
@[simp] theorem takeInput_mxMaskValid (rest : List Input) : (takeInput rest s).mxMaskValid = s.mxMaskValid := rfl
@[simp] theorem takeInput_mxLevel (rest : List Input) : (takeInput rest s).mxLevel = s.mxLevel := rfl
@[simp] theorem takeInput_mxLevelValid (rest : List Input) : (takeInput rest s).mxLevelValid = s.mxLevelValid := rfl
@[simp] theorem takeInput_mxFormat (rest : List Input) : (takeInput rest s).mxFormat = s.mxFormat := rfl
@[simp] theorem takeInput_mxVerinfo (rest : List Input) : (takeInput rest s).mxVerinfo = s.mxVerinfo := rfl
@[simp] theorem takeInput_penTotal (rest : List Input) : (takeInput rest s).penTotal = s.penTotal := rfl
@[simp] theorem takeInput_penN1 (rest : List Input) : (takeInput rest s).penN1 = s.penN1 := rfl
@[simp] theorem takeInput_penN2 (rest : List Input) : (takeInput rest s).penN2 = s.penN2 := rfl
@[simp] theorem takeInput_penN3 (rest : List Input) : (takeInput rest s).penN3 = s.penN3 := rfl
@[simp] theorem takeInput_penN4 (rest : List Input) : (takeInput rest s).penN4 = s.penN4 := rfl
@[simp] theorem takeInput_penMask (rest : List Input) : (takeInput rest s).penMask = s.penMask := rfl
@[simp] theorem takeInput_penM (rest : List Input) : (takeInput rest s).penM = s.penM := rfl
@[simp] theorem takeInput_pend (rest : List Input) : (takeInput rest s).pend = s.pend := rfl
@[simp] theorem takeInput_lword (rest : List Input) : (takeInput rest s).lword = s.lword := rfl
@[simp] theorem takeInput_lrsSrc (rest : List Input) : (takeInput rest s).lrsSrc = s.lrsSrc := rfl
@[simp] theorem takeInput_lrsDst (rest : List Input) : (takeInput rest s).lrsDst = s.lrsDst := rfl
@[simp] theorem takeInput_lplSrc (rest : List Input) : (takeInput rest s).lplSrc = s.lplSrc := rfl
@[simp] theorem takeInput_lplCount (rest : List Input) : (takeInput rest s).lplCount = s.lplCount := rfl
@[simp] theorem takeInput_cw (rest : List Input) : (takeInput rest s).cw = s.cw := rfl
@[simp] theorem takeInput_cwEpoch (rest : List Input) : (takeInput rest s).cwEpoch = s.cwEpoch := rfl
@[simp] theorem takeInput_inputs (rest : List Input) : (takeInput rest s).inputs = rest := rfl
@[simp] theorem takeInput_busData (rest : List Input) : (takeInput rest s).busData = s.busData := rfl

/-! ### setAccerr -/

@[simp] theorem setAccerr_irqen : (setAccerr s).irqen = s.irqen := rfl
@[simp] theorem setAccerr_done : (setAccerr s).done = s.done := rfl
@[simp] theorem setAccerr_err : (setAccerr s).err = s.err := rfl
@[simp] theorem setAccerr_ovr : (setAccerr s).ovr = s.ovr := rfl
@[simp] theorem setAccerr_accerr : (setAccerr s).accerr = true := rfl
@[simp] theorem setAccerr_phase : (setAccerr s).phase = s.phase := rfl
@[simp] theorem setAccerr_errcode : (setAccerr s).errcode = s.errcode := rfl
@[simp] theorem setAccerr_cmd : (setAccerr s).cmd = s.cmd := rfl
@[simp] theorem setAccerr_gfR : (setAccerr s).gfR = s.gfR := rfl
@[simp] theorem setAccerr_rsSrc : (setAccerr s).rsSrc = s.rsSrc := rfl
@[simp] theorem setAccerr_rsDst : (setAccerr s).rsDst = s.rsDst := rfl
@[simp] theorem setAccerr_genDeg : (setAccerr s).genDeg = s.genDeg := rfl
@[simp] theorem setAccerr_gen : (setAccerr s).gen = s.gen := rfl
@[simp] theorem setAccerr_plSrc : (setAccerr s).plSrc = s.plSrc := rfl
@[simp] theorem setAccerr_plCount : (setAccerr s).plCount = s.plCount := rfl
@[simp] theorem setAccerr_mxVersion : (setAccerr s).mxVersion = s.mxVersion := rfl
@[simp] theorem setAccerr_mxSize : (setAccerr s).mxSize = s.mxSize := rfl
@[simp] theorem setAccerr_mxDatamod : (setAccerr s).mxDatamod = s.mxDatamod := rfl
@[simp] theorem setAccerr_mx : (setAccerr s).mx = s.mx := rfl
@[simp] theorem setAccerr_mxMask : (setAccerr s).mxMask = s.mxMask := rfl
@[simp] theorem setAccerr_mxMaskValid : (setAccerr s).mxMaskValid = s.mxMaskValid := rfl
@[simp] theorem setAccerr_mxLevel : (setAccerr s).mxLevel = s.mxLevel := rfl
@[simp] theorem setAccerr_mxLevelValid : (setAccerr s).mxLevelValid = s.mxLevelValid := rfl
@[simp] theorem setAccerr_mxFormat : (setAccerr s).mxFormat = s.mxFormat := rfl
@[simp] theorem setAccerr_mxVerinfo : (setAccerr s).mxVerinfo = s.mxVerinfo := rfl
@[simp] theorem setAccerr_penTotal : (setAccerr s).penTotal = s.penTotal := rfl
@[simp] theorem setAccerr_penN1 : (setAccerr s).penN1 = s.penN1 := rfl
@[simp] theorem setAccerr_penN2 : (setAccerr s).penN2 = s.penN2 := rfl
@[simp] theorem setAccerr_penN3 : (setAccerr s).penN3 = s.penN3 := rfl
@[simp] theorem setAccerr_penN4 : (setAccerr s).penN4 = s.penN4 := rfl
@[simp] theorem setAccerr_penMask : (setAccerr s).penMask = s.penMask := rfl
@[simp] theorem setAccerr_penM : (setAccerr s).penM = s.penM := rfl
@[simp] theorem setAccerr_pend : (setAccerr s).pend = s.pend := rfl
@[simp] theorem setAccerr_lword : (setAccerr s).lword = s.lword := rfl
@[simp] theorem setAccerr_lrsSrc : (setAccerr s).lrsSrc = s.lrsSrc := rfl
@[simp] theorem setAccerr_lrsDst : (setAccerr s).lrsDst = s.lrsDst := rfl
@[simp] theorem setAccerr_lplSrc : (setAccerr s).lplSrc = s.lplSrc := rfl
@[simp] theorem setAccerr_lplCount : (setAccerr s).lplCount = s.lplCount := rfl
@[simp] theorem setAccerr_cw : (setAccerr s).cw = s.cw := rfl
@[simp] theorem setAccerr_cwEpoch : (setAccerr s).cwEpoch = s.cwEpoch := rfl
@[simp] theorem setAccerr_inputs : (setAccerr s).inputs = s.inputs := rfl
@[simp] theorem setAccerr_busData : (setAccerr s).busData = s.busData := rfl

/-! ### setOvr -/

@[simp] theorem setOvr_irqen : (setOvr s).irqen = s.irqen := rfl
@[simp] theorem setOvr_done : (setOvr s).done = s.done := rfl
@[simp] theorem setOvr_err : (setOvr s).err = s.err := rfl
@[simp] theorem setOvr_ovr : (setOvr s).ovr = true := rfl
@[simp] theorem setOvr_accerr : (setOvr s).accerr = s.accerr := rfl
@[simp] theorem setOvr_phase : (setOvr s).phase = s.phase := rfl
@[simp] theorem setOvr_errcode : (setOvr s).errcode = s.errcode := rfl
@[simp] theorem setOvr_cmd : (setOvr s).cmd = s.cmd := rfl
@[simp] theorem setOvr_gfR : (setOvr s).gfR = s.gfR := rfl
@[simp] theorem setOvr_rsSrc : (setOvr s).rsSrc = s.rsSrc := rfl
@[simp] theorem setOvr_rsDst : (setOvr s).rsDst = s.rsDst := rfl
@[simp] theorem setOvr_genDeg : (setOvr s).genDeg = s.genDeg := rfl
@[simp] theorem setOvr_gen : (setOvr s).gen = s.gen := rfl
@[simp] theorem setOvr_plSrc : (setOvr s).plSrc = s.plSrc := rfl
@[simp] theorem setOvr_plCount : (setOvr s).plCount = s.plCount := rfl
@[simp] theorem setOvr_mxVersion : (setOvr s).mxVersion = s.mxVersion := rfl
@[simp] theorem setOvr_mxSize : (setOvr s).mxSize = s.mxSize := rfl
@[simp] theorem setOvr_mxDatamod : (setOvr s).mxDatamod = s.mxDatamod := rfl
@[simp] theorem setOvr_mx : (setOvr s).mx = s.mx := rfl
@[simp] theorem setOvr_mxMask : (setOvr s).mxMask = s.mxMask := rfl
@[simp] theorem setOvr_mxMaskValid : (setOvr s).mxMaskValid = s.mxMaskValid := rfl
@[simp] theorem setOvr_mxLevel : (setOvr s).mxLevel = s.mxLevel := rfl
@[simp] theorem setOvr_mxLevelValid : (setOvr s).mxLevelValid = s.mxLevelValid := rfl
@[simp] theorem setOvr_mxFormat : (setOvr s).mxFormat = s.mxFormat := rfl
@[simp] theorem setOvr_mxVerinfo : (setOvr s).mxVerinfo = s.mxVerinfo := rfl
@[simp] theorem setOvr_penTotal : (setOvr s).penTotal = s.penTotal := rfl
@[simp] theorem setOvr_penN1 : (setOvr s).penN1 = s.penN1 := rfl
@[simp] theorem setOvr_penN2 : (setOvr s).penN2 = s.penN2 := rfl
@[simp] theorem setOvr_penN3 : (setOvr s).penN3 = s.penN3 := rfl
@[simp] theorem setOvr_penN4 : (setOvr s).penN4 = s.penN4 := rfl
@[simp] theorem setOvr_penMask : (setOvr s).penMask = s.penMask := rfl
@[simp] theorem setOvr_penM : (setOvr s).penM = s.penM := rfl
@[simp] theorem setOvr_pend : (setOvr s).pend = s.pend := rfl
@[simp] theorem setOvr_lword : (setOvr s).lword = s.lword := rfl
@[simp] theorem setOvr_lrsSrc : (setOvr s).lrsSrc = s.lrsSrc := rfl
@[simp] theorem setOvr_lrsDst : (setOvr s).lrsDst = s.lrsDst := rfl
@[simp] theorem setOvr_lplSrc : (setOvr s).lplSrc = s.lplSrc := rfl
@[simp] theorem setOvr_lplCount : (setOvr s).lplCount = s.lplCount := rfl
@[simp] theorem setOvr_cw : (setOvr s).cw = s.cw := rfl
@[simp] theorem setOvr_cwEpoch : (setOvr s).cwEpoch = s.cwEpoch := rfl
@[simp] theorem setOvr_inputs : (setOvr s).inputs = s.inputs := rfl
@[simp] theorem setOvr_busData : (setOvr s).busData = s.busData := rfl

/-! ### clearStatus -/

@[simp] theorem clearStatus_irqen (w : Word) : (clearStatus w s).irqen = s.irqen := rfl
@[simp] theorem clearStatus_done (w : Word) : (clearStatus w s).done = (s.done && !w.getLsbD 1) := rfl
@[simp] theorem clearStatus_err (w : Word) : (clearStatus w s).err = s.err := rfl
@[simp] theorem clearStatus_ovr (w : Word) : (clearStatus w s).ovr = (s.ovr && !w.getLsbD 3) := rfl
@[simp] theorem clearStatus_accerr (w : Word) : (clearStatus w s).accerr = (s.accerr && !w.getLsbD 4) := rfl
@[simp] theorem clearStatus_phase (w : Word) : (clearStatus w s).phase = s.phase := rfl
@[simp] theorem clearStatus_errcode (w : Word) : (clearStatus w s).errcode = s.errcode := rfl
@[simp] theorem clearStatus_cmd (w : Word) : (clearStatus w s).cmd = s.cmd := rfl
@[simp] theorem clearStatus_gfR (w : Word) : (clearStatus w s).gfR = s.gfR := rfl
@[simp] theorem clearStatus_rsSrc (w : Word) : (clearStatus w s).rsSrc = s.rsSrc := rfl
@[simp] theorem clearStatus_rsDst (w : Word) : (clearStatus w s).rsDst = s.rsDst := rfl
@[simp] theorem clearStatus_genDeg (w : Word) : (clearStatus w s).genDeg = s.genDeg := rfl
@[simp] theorem clearStatus_gen (w : Word) : (clearStatus w s).gen = s.gen := rfl
@[simp] theorem clearStatus_plSrc (w : Word) : (clearStatus w s).plSrc = s.plSrc := rfl
@[simp] theorem clearStatus_plCount (w : Word) : (clearStatus w s).plCount = s.plCount := rfl
@[simp] theorem clearStatus_mxVersion (w : Word) : (clearStatus w s).mxVersion = s.mxVersion := rfl
@[simp] theorem clearStatus_mxSize (w : Word) : (clearStatus w s).mxSize = s.mxSize := rfl
@[simp] theorem clearStatus_mxDatamod (w : Word) : (clearStatus w s).mxDatamod = s.mxDatamod := rfl
@[simp] theorem clearStatus_mx (w : Word) : (clearStatus w s).mx = s.mx := rfl
@[simp] theorem clearStatus_mxMask (w : Word) : (clearStatus w s).mxMask = s.mxMask := rfl
@[simp] theorem clearStatus_mxMaskValid (w : Word) : (clearStatus w s).mxMaskValid = s.mxMaskValid := rfl
@[simp] theorem clearStatus_mxLevel (w : Word) : (clearStatus w s).mxLevel = s.mxLevel := rfl
@[simp] theorem clearStatus_mxLevelValid (w : Word) : (clearStatus w s).mxLevelValid = s.mxLevelValid := rfl
@[simp] theorem clearStatus_mxFormat (w : Word) : (clearStatus w s).mxFormat = s.mxFormat := rfl
@[simp] theorem clearStatus_mxVerinfo (w : Word) : (clearStatus w s).mxVerinfo = s.mxVerinfo := rfl
@[simp] theorem clearStatus_penTotal (w : Word) : (clearStatus w s).penTotal = s.penTotal := rfl
@[simp] theorem clearStatus_penN1 (w : Word) : (clearStatus w s).penN1 = s.penN1 := rfl
@[simp] theorem clearStatus_penN2 (w : Word) : (clearStatus w s).penN2 = s.penN2 := rfl
@[simp] theorem clearStatus_penN3 (w : Word) : (clearStatus w s).penN3 = s.penN3 := rfl
@[simp] theorem clearStatus_penN4 (w : Word) : (clearStatus w s).penN4 = s.penN4 := rfl
@[simp] theorem clearStatus_penMask (w : Word) : (clearStatus w s).penMask = s.penMask := rfl
@[simp] theorem clearStatus_penM (w : Word) : (clearStatus w s).penM = s.penM := rfl
@[simp] theorem clearStatus_pend (w : Word) : (clearStatus w s).pend = s.pend := rfl
@[simp] theorem clearStatus_lword (w : Word) : (clearStatus w s).lword = s.lword := rfl
@[simp] theorem clearStatus_lrsSrc (w : Word) : (clearStatus w s).lrsSrc = s.lrsSrc := rfl
@[simp] theorem clearStatus_lrsDst (w : Word) : (clearStatus w s).lrsDst = s.lrsDst := rfl
@[simp] theorem clearStatus_lplSrc (w : Word) : (clearStatus w s).lplSrc = s.lplSrc := rfl
@[simp] theorem clearStatus_lplCount (w : Word) : (clearStatus w s).lplCount = s.lplCount := rfl
@[simp] theorem clearStatus_cw (w : Word) : (clearStatus w s).cw = s.cw := rfl
@[simp] theorem clearStatus_cwEpoch (w : Word) : (clearStatus w s).cwEpoch = s.cwEpoch := rfl
@[simp] theorem clearStatus_inputs (w : Word) : (clearStatus w s).inputs = s.inputs := rfl
@[simp] theorem clearStatus_busData (w : Word) : (clearStatus w s).busData = s.busData := rfl

/-! ### setGenerator -/

@[simp] theorem setGenerator_irqen (n : Nat) : (setGenerator n s).irqen = s.irqen := rfl
@[simp] theorem setGenerator_done (n : Nat) : (setGenerator n s).done = s.done := rfl
@[simp] theorem setGenerator_err (n : Nat) : (setGenerator n s).err = s.err := rfl
@[simp] theorem setGenerator_ovr (n : Nat) : (setGenerator n s).ovr = s.ovr := rfl
@[simp] theorem setGenerator_accerr (n : Nat) : (setGenerator n s).accerr = s.accerr := rfl
@[simp] theorem setGenerator_phase (n : Nat) : (setGenerator n s).phase = s.phase := rfl
@[simp] theorem setGenerator_errcode (n : Nat) : (setGenerator n s).errcode = s.errcode := rfl
@[simp] theorem setGenerator_cmd (n : Nat) : (setGenerator n s).cmd = s.cmd := rfl
@[simp] theorem setGenerator_gfR (n : Nat) : (setGenerator n s).gfR = s.gfR := rfl
@[simp] theorem setGenerator_rsSrc (n : Nat) : (setGenerator n s).rsSrc = s.rsSrc := rfl
@[simp] theorem setGenerator_rsDst (n : Nat) : (setGenerator n s).rsDst = s.rsDst := rfl
@[simp] theorem setGenerator_genDeg (n : Nat) : (setGenerator n s).genDeg = BitVec.ofNat 8 n := rfl
@[simp] theorem setGenerator_gen (n : Nat) : (setGenerator n s).gen = generator n := rfl
@[simp] theorem setGenerator_plSrc (n : Nat) : (setGenerator n s).plSrc = s.plSrc := rfl
@[simp] theorem setGenerator_plCount (n : Nat) : (setGenerator n s).plCount = s.plCount := rfl
@[simp] theorem setGenerator_mxVersion (n : Nat) : (setGenerator n s).mxVersion = s.mxVersion := rfl
@[simp] theorem setGenerator_mxSize (n : Nat) : (setGenerator n s).mxSize = s.mxSize := rfl
@[simp] theorem setGenerator_mxDatamod (n : Nat) : (setGenerator n s).mxDatamod = s.mxDatamod := rfl
@[simp] theorem setGenerator_mx (n : Nat) : (setGenerator n s).mx = s.mx := rfl
@[simp] theorem setGenerator_mxMask (n : Nat) : (setGenerator n s).mxMask = s.mxMask := rfl
@[simp] theorem setGenerator_mxMaskValid (n : Nat) : (setGenerator n s).mxMaskValid = s.mxMaskValid := rfl
@[simp] theorem setGenerator_mxLevel (n : Nat) : (setGenerator n s).mxLevel = s.mxLevel := rfl
@[simp] theorem setGenerator_mxLevelValid (n : Nat) : (setGenerator n s).mxLevelValid = s.mxLevelValid := rfl
@[simp] theorem setGenerator_mxFormat (n : Nat) : (setGenerator n s).mxFormat = s.mxFormat := rfl
@[simp] theorem setGenerator_mxVerinfo (n : Nat) : (setGenerator n s).mxVerinfo = s.mxVerinfo := rfl
@[simp] theorem setGenerator_penTotal (n : Nat) : (setGenerator n s).penTotal = s.penTotal := rfl
@[simp] theorem setGenerator_penN1 (n : Nat) : (setGenerator n s).penN1 = s.penN1 := rfl
@[simp] theorem setGenerator_penN2 (n : Nat) : (setGenerator n s).penN2 = s.penN2 := rfl
@[simp] theorem setGenerator_penN3 (n : Nat) : (setGenerator n s).penN3 = s.penN3 := rfl
@[simp] theorem setGenerator_penN4 (n : Nat) : (setGenerator n s).penN4 = s.penN4 := rfl
@[simp] theorem setGenerator_penMask (n : Nat) : (setGenerator n s).penMask = s.penMask := rfl
@[simp] theorem setGenerator_penM (n : Nat) : (setGenerator n s).penM = s.penM := rfl
@[simp] theorem setGenerator_pend (n : Nat) : (setGenerator n s).pend = s.pend := rfl
@[simp] theorem setGenerator_lword (n : Nat) : (setGenerator n s).lword = s.lword := rfl
@[simp] theorem setGenerator_lrsSrc (n : Nat) : (setGenerator n s).lrsSrc = s.lrsSrc := rfl
@[simp] theorem setGenerator_lrsDst (n : Nat) : (setGenerator n s).lrsDst = s.lrsDst := rfl
@[simp] theorem setGenerator_lplSrc (n : Nat) : (setGenerator n s).lplSrc = s.lplSrc := rfl
@[simp] theorem setGenerator_lplCount (n : Nat) : (setGenerator n s).lplCount = s.lplCount := rfl
@[simp] theorem setGenerator_cw (n : Nat) : (setGenerator n s).cw = s.cw := rfl
@[simp] theorem setGenerator_cwEpoch (n : Nat) : (setGenerator n s).cwEpoch = s.cwEpoch := rfl
@[simp] theorem setGenerator_inputs (n : Nat) : (setGenerator n s).inputs = s.inputs := rfl
@[simp] theorem setGenerator_busData (n : Nat) : (setGenerator n s).busData = s.busData := rfl

/-! ### applyMask -/

@[simp] theorem applyMask_irqen (m : BitVec 3) : (applyMask m s).irqen = s.irqen := rfl
@[simp] theorem applyMask_done (m : BitVec 3) : (applyMask m s).done = s.done := rfl
@[simp] theorem applyMask_err (m : BitVec 3) : (applyMask m s).err = s.err := rfl
@[simp] theorem applyMask_ovr (m : BitVec 3) : (applyMask m s).ovr = s.ovr := rfl
@[simp] theorem applyMask_accerr (m : BitVec 3) : (applyMask m s).accerr = s.accerr := rfl
@[simp] theorem applyMask_phase (m : BitVec 3) : (applyMask m s).phase = .masked := rfl
@[simp] theorem applyMask_errcode (m : BitVec 3) : (applyMask m s).errcode = s.errcode := rfl
@[simp] theorem applyMask_cmd (m : BitVec 3) : (applyMask m s).cmd = s.cmd := rfl
@[simp] theorem applyMask_gfR (m : BitVec 3) : (applyMask m s).gfR = s.gfR := rfl
@[simp] theorem applyMask_rsSrc (m : BitVec 3) : (applyMask m s).rsSrc = s.rsSrc := rfl
@[simp] theorem applyMask_rsDst (m : BitVec 3) : (applyMask m s).rsDst = s.rsDst := rfl
@[simp] theorem applyMask_genDeg (m : BitVec 3) : (applyMask m s).genDeg = s.genDeg := rfl
@[simp] theorem applyMask_gen (m : BitVec 3) : (applyMask m s).gen = s.gen := rfl
@[simp] theorem applyMask_plSrc (m : BitVec 3) : (applyMask m s).plSrc = s.plSrc := rfl
@[simp] theorem applyMask_plCount (m : BitVec 3) : (applyMask m s).plCount = s.plCount := rfl
@[simp] theorem applyMask_mxVersion (m : BitVec 3) : (applyMask m s).mxVersion = s.mxVersion := rfl
@[simp] theorem applyMask_mxSize (m : BitVec 3) : (applyMask m s).mxSize = s.mxSize := rfl
@[simp] theorem applyMask_mxDatamod (m : BitVec 3) : (applyMask m s).mxDatamod = s.mxDatamod := rfl
@[simp] theorem applyMask_mx (m : BitVec 3) : (applyMask m s).mx = masked s.mx (symbolSide s) m := rfl
@[simp] theorem applyMask_mxMask (m : BitVec 3) : (applyMask m s).mxMask = m := rfl
@[simp] theorem applyMask_mxMaskValid (m : BitVec 3) : (applyMask m s).mxMaskValid = true := rfl
@[simp] theorem applyMask_mxLevel (m : BitVec 3) : (applyMask m s).mxLevel = s.mxLevel := rfl
@[simp] theorem applyMask_mxLevelValid (m : BitVec 3) : (applyMask m s).mxLevelValid = s.mxLevelValid := rfl
@[simp] theorem applyMask_mxFormat (m : BitVec 3) : (applyMask m s).mxFormat = s.mxFormat := rfl
@[simp] theorem applyMask_mxVerinfo (m : BitVec 3) : (applyMask m s).mxVerinfo = s.mxVerinfo := rfl
@[simp] theorem applyMask_penTotal (m : BitVec 3) : (applyMask m s).penTotal = s.penTotal := rfl
@[simp] theorem applyMask_penN1 (m : BitVec 3) : (applyMask m s).penN1 = s.penN1 := rfl
@[simp] theorem applyMask_penN2 (m : BitVec 3) : (applyMask m s).penN2 = s.penN2 := rfl
@[simp] theorem applyMask_penN3 (m : BitVec 3) : (applyMask m s).penN3 = s.penN3 := rfl
@[simp] theorem applyMask_penN4 (m : BitVec 3) : (applyMask m s).penN4 = s.penN4 := rfl
@[simp] theorem applyMask_penMask (m : BitVec 3) : (applyMask m s).penMask = s.penMask := rfl
@[simp] theorem applyMask_penM (m : BitVec 3) : (applyMask m s).penM = s.penM := rfl
@[simp] theorem applyMask_pend (m : BitVec 3) : (applyMask m s).pend = s.pend := rfl
@[simp] theorem applyMask_lword (m : BitVec 3) : (applyMask m s).lword = s.lword := rfl
@[simp] theorem applyMask_lrsSrc (m : BitVec 3) : (applyMask m s).lrsSrc = s.lrsSrc := rfl
@[simp] theorem applyMask_lrsDst (m : BitVec 3) : (applyMask m s).lrsDst = s.lrsDst := rfl
@[simp] theorem applyMask_lplSrc (m : BitVec 3) : (applyMask m s).lplSrc = s.lplSrc := rfl
@[simp] theorem applyMask_lplCount (m : BitVec 3) : (applyMask m s).lplCount = s.lplCount := rfl
@[simp] theorem applyMask_cw (m : BitVec 3) : (applyMask m s).cw = s.cw := rfl
@[simp] theorem applyMask_cwEpoch (m : BitVec 3) : (applyMask m s).cwEpoch = s.cwEpoch := rfl
@[simp] theorem applyMask_inputs (m : BitVec 3) : (applyMask m s).inputs = s.inputs := rfl
@[simp] theorem applyMask_busData (m : BitVec 3) : (applyMask m s).busData = s.busData := rfl

/-! ### recordPenalty -/

@[simp] theorem recordPenalty_irqen (m : BitVec 3) (p : Penalty) : (recordPenalty m p s).irqen = s.irqen := rfl
@[simp] theorem recordPenalty_done (m : BitVec 3) (p : Penalty) : (recordPenalty m p s).done = s.done := rfl
@[simp] theorem recordPenalty_err (m : BitVec 3) (p : Penalty) : (recordPenalty m p s).err = s.err := rfl
@[simp] theorem recordPenalty_ovr (m : BitVec 3) (p : Penalty) : (recordPenalty m p s).ovr = s.ovr := rfl
@[simp] theorem recordPenalty_accerr (m : BitVec 3) (p : Penalty) : (recordPenalty m p s).accerr = s.accerr := rfl
@[simp] theorem recordPenalty_phase (m : BitVec 3) (p : Penalty) : (recordPenalty m p s).phase = s.phase := rfl
@[simp] theorem recordPenalty_errcode (m : BitVec 3) (p : Penalty) : (recordPenalty m p s).errcode = s.errcode := rfl
@[simp] theorem recordPenalty_cmd (m : BitVec 3) (p : Penalty) : (recordPenalty m p s).cmd = s.cmd := rfl
@[simp] theorem recordPenalty_gfR (m : BitVec 3) (p : Penalty) : (recordPenalty m p s).gfR = s.gfR := rfl
@[simp] theorem recordPenalty_rsSrc (m : BitVec 3) (p : Penalty) : (recordPenalty m p s).rsSrc = s.rsSrc := rfl
@[simp] theorem recordPenalty_rsDst (m : BitVec 3) (p : Penalty) : (recordPenalty m p s).rsDst = s.rsDst := rfl
@[simp] theorem recordPenalty_genDeg (m : BitVec 3) (p : Penalty) : (recordPenalty m p s).genDeg = s.genDeg := rfl
@[simp] theorem recordPenalty_gen (m : BitVec 3) (p : Penalty) : (recordPenalty m p s).gen = s.gen := rfl
@[simp] theorem recordPenalty_plSrc (m : BitVec 3) (p : Penalty) : (recordPenalty m p s).plSrc = s.plSrc := rfl
@[simp] theorem recordPenalty_plCount (m : BitVec 3) (p : Penalty) : (recordPenalty m p s).plCount = s.plCount := rfl
@[simp] theorem recordPenalty_mxVersion (m : BitVec 3) (p : Penalty) : (recordPenalty m p s).mxVersion = s.mxVersion := rfl
@[simp] theorem recordPenalty_mxSize (m : BitVec 3) (p : Penalty) : (recordPenalty m p s).mxSize = s.mxSize := rfl
@[simp] theorem recordPenalty_mxDatamod (m : BitVec 3) (p : Penalty) : (recordPenalty m p s).mxDatamod = s.mxDatamod := rfl
@[simp] theorem recordPenalty_mx (m : BitVec 3) (p : Penalty) : (recordPenalty m p s).mx = s.mx := rfl
@[simp] theorem recordPenalty_mxMask (m : BitVec 3) (p : Penalty) : (recordPenalty m p s).mxMask = s.mxMask := rfl
@[simp] theorem recordPenalty_mxMaskValid (m : BitVec 3) (p : Penalty) : (recordPenalty m p s).mxMaskValid = s.mxMaskValid := rfl
@[simp] theorem recordPenalty_mxLevel (m : BitVec 3) (p : Penalty) : (recordPenalty m p s).mxLevel = s.mxLevel := rfl
@[simp] theorem recordPenalty_mxLevelValid (m : BitVec 3) (p : Penalty) : (recordPenalty m p s).mxLevelValid = s.mxLevelValid := rfl
@[simp] theorem recordPenalty_mxFormat (m : BitVec 3) (p : Penalty) : (recordPenalty m p s).mxFormat = s.mxFormat := rfl
@[simp] theorem recordPenalty_mxVerinfo (m : BitVec 3) (p : Penalty) : (recordPenalty m p s).mxVerinfo = s.mxVerinfo := rfl
@[simp] theorem recordPenalty_penTotal (m : BitVec 3) (p : Penalty) : (recordPenalty m p s).penTotal = BitVec.ofNat 32 (penaltyTotal p) := rfl
@[simp] theorem recordPenalty_penN1 (m : BitVec 3) (p : Penalty) : (recordPenalty m p s).penN1 = BitVec.ofNat 32 p.n1 := rfl
@[simp] theorem recordPenalty_penN2 (m : BitVec 3) (p : Penalty) : (recordPenalty m p s).penN2 = BitVec.ofNat 32 p.n2 := rfl
@[simp] theorem recordPenalty_penN3 (m : BitVec 3) (p : Penalty) : (recordPenalty m p s).penN3 = BitVec.ofNat 32 p.n3 := rfl
@[simp] theorem recordPenalty_penN4 (m : BitVec 3) (p : Penalty) : (recordPenalty m p s).penN4 = BitVec.ofNat 32 p.n4 := rfl
@[simp] theorem recordPenalty_penMask (m : BitVec 3) (p : Penalty) : (recordPenalty m p s).penMask = m := rfl
@[simp] theorem recordPenalty_penM (m : BitVec 3) (p : Penalty) : (recordPenalty m p s).penM = s.penM := rfl
@[simp] theorem recordPenalty_pend (m : BitVec 3) (p : Penalty) : (recordPenalty m p s).pend = s.pend := rfl
@[simp] theorem recordPenalty_lword (m : BitVec 3) (p : Penalty) : (recordPenalty m p s).lword = s.lword := rfl
@[simp] theorem recordPenalty_lrsSrc (m : BitVec 3) (p : Penalty) : (recordPenalty m p s).lrsSrc = s.lrsSrc := rfl
@[simp] theorem recordPenalty_lrsDst (m : BitVec 3) (p : Penalty) : (recordPenalty m p s).lrsDst = s.lrsDst := rfl
@[simp] theorem recordPenalty_lplSrc (m : BitVec 3) (p : Penalty) : (recordPenalty m p s).lplSrc = s.lplSrc := rfl
@[simp] theorem recordPenalty_lplCount (m : BitVec 3) (p : Penalty) : (recordPenalty m p s).lplCount = s.lplCount := rfl
@[simp] theorem recordPenalty_cw (m : BitVec 3) (p : Penalty) : (recordPenalty m p s).cw = s.cw := rfl
@[simp] theorem recordPenalty_cwEpoch (m : BitVec 3) (p : Penalty) : (recordPenalty m p s).cwEpoch = s.cwEpoch := rfl
@[simp] theorem recordPenalty_inputs (m : BitVec 3) (p : Penalty) : (recordPenalty m p s).inputs = s.inputs := rfl
@[simp] theorem recordPenalty_busData (m : BitVec 3) (p : Penalty) : (recordPenalty m p s).busData = s.busData := rfl

/-! ### startSymbol -/

@[simp] theorem startSymbol_irqen (v : Nat) : (startSymbol v s).irqen = s.irqen := rfl
@[simp] theorem startSymbol_done (v : Nat) : (startSymbol v s).done = s.done := rfl
@[simp] theorem startSymbol_err (v : Nat) : (startSymbol v s).err = s.err := rfl
@[simp] theorem startSymbol_ovr (v : Nat) : (startSymbol v s).ovr = s.ovr := rfl
@[simp] theorem startSymbol_accerr (v : Nat) : (startSymbol v s).accerr = s.accerr := rfl
@[simp] theorem startSymbol_phase (v : Nat) : (startSymbol v s).phase = .func := rfl
@[simp] theorem startSymbol_errcode (v : Nat) : (startSymbol v s).errcode = s.errcode := rfl
@[simp] theorem startSymbol_cmd (v : Nat) : (startSymbol v s).cmd = s.cmd := rfl
@[simp] theorem startSymbol_gfR (v : Nat) : (startSymbol v s).gfR = s.gfR := rfl
@[simp] theorem startSymbol_rsSrc (v : Nat) : (startSymbol v s).rsSrc = s.rsSrc := rfl
@[simp] theorem startSymbol_rsDst (v : Nat) : (startSymbol v s).rsDst = s.rsDst := rfl
@[simp] theorem startSymbol_genDeg (v : Nat) : (startSymbol v s).genDeg = s.genDeg := rfl
@[simp] theorem startSymbol_gen (v : Nat) : (startSymbol v s).gen = s.gen := rfl
@[simp] theorem startSymbol_plSrc (v : Nat) : (startSymbol v s).plSrc = s.plSrc := rfl
@[simp] theorem startSymbol_plCount (v : Nat) : (startSymbol v s).plCount = s.plCount := rfl
@[simp] theorem startSymbol_mxVersion (v : Nat) : (startSymbol v s).mxVersion = BitVec.ofNat 6 v := rfl
@[simp] theorem startSymbol_mxSize (v : Nat) : (startSymbol v s).mxSize = BitVec.ofNat 8 (sideOf v) := rfl
@[simp] theorem startSymbol_mxDatamod (v : Nat) : (startSymbol v s).mxDatamod = BitVec.ofNat 15 (countData (layout v) (sideOf v)) := rfl
@[simp] theorem startSymbol_mx (v : Nat) : (startSymbol v s).mx = layout v := rfl
@[simp] theorem startSymbol_mxMask (v : Nat) : (startSymbol v s).mxMask = 0#3 := rfl
@[simp] theorem startSymbol_mxMaskValid (v : Nat) : (startSymbol v s).mxMaskValid = false := rfl
@[simp] theorem startSymbol_mxLevel (v : Nat) : (startSymbol v s).mxLevel = 0#2 := rfl
@[simp] theorem startSymbol_mxLevelValid (v : Nat) : (startSymbol v s).mxLevelValid = false := rfl
@[simp] theorem startSymbol_mxFormat (v : Nat) : (startSymbol v s).mxFormat = 0#15 := rfl
@[simp] theorem startSymbol_mxVerinfo (v : Nat) : (startSymbol v s).mxVerinfo = 0#18 := rfl
@[simp] theorem startSymbol_penTotal (v : Nat) : (startSymbol v s).penTotal = 0#32 := rfl
@[simp] theorem startSymbol_penN1 (v : Nat) : (startSymbol v s).penN1 = 0#32 := rfl
@[simp] theorem startSymbol_penN2 (v : Nat) : (startSymbol v s).penN2 = 0#32 := rfl
@[simp] theorem startSymbol_penN3 (v : Nat) : (startSymbol v s).penN3 = 0#32 := rfl
@[simp] theorem startSymbol_penN4 (v : Nat) : (startSymbol v s).penN4 = 0#32 := rfl
@[simp] theorem startSymbol_penMask (v : Nat) : (startSymbol v s).penMask = 0#3 := rfl
@[simp] theorem startSymbol_penM (v : Nat) : (startSymbol v s).penM = Vector.replicate 8 0#32 := rfl
@[simp] theorem startSymbol_pend (v : Nat) : (startSymbol v s).pend = s.pend := rfl
@[simp] theorem startSymbol_lword (v : Nat) : (startSymbol v s).lword = s.lword := rfl
@[simp] theorem startSymbol_lrsSrc (v : Nat) : (startSymbol v s).lrsSrc = s.lrsSrc := rfl
@[simp] theorem startSymbol_lrsDst (v : Nat) : (startSymbol v s).lrsDst = s.lrsDst := rfl
@[simp] theorem startSymbol_lplSrc (v : Nat) : (startSymbol v s).lplSrc = s.lplSrc := rfl
@[simp] theorem startSymbol_lplCount (v : Nat) : (startSymbol v s).lplCount = s.lplCount := rfl
@[simp] theorem startSymbol_cw (v : Nat) : (startSymbol v s).cw = s.cw := rfl
@[simp] theorem startSymbol_cwEpoch (v : Nat) : (startSymbol v s).cwEpoch = s.cwEpoch := rfl
@[simp] theorem startSymbol_inputs (v : Nat) : (startSymbol v s).inputs = s.inputs := rfl
@[simp] theorem startSymbol_busData (v : Nat) : (startSymbol v s).busData = s.busData := rfl

end Sys2Proof.Machine
end

