-- ==== Sys2Proof/Laws/Commands.lean ====
section
/-! SUPPORT. What each command can answer, said once: one inversion lemma per command with checks, one equation per command
without. -/

namespace Sys2Proof.Machine

variable {s t : State}

theorem exec_nop : exec .nop s = .next (complete .none s) := rfl

theorem exec_gfadd (a b : Byte) : exec (.gfadd a b) s = .next (gfResult (a ^^^ b) s) := rfl

theorem exec_gfmul (a b : Byte) : exec (.gfmul a b) s = .next (gfResult (gfMul a b) s) := rfl

theorem exec_gfexp (e : Byte) : exec (.gfexp e) s = .next (gfResult (expAt e.toNat) s) := rfl

theorem exec_gfdiv_cases {a b : Byte} (h : exec (.gfdiv a b) s = .next t) :
    (b = 0x00#8 ∧ t = complete .divZero s) ∨ (b ≠ 0x00#8 ∧ t = gfResult (gfDiv a b) s) := by
  simp only [exec, execGfdiv] at h
  split at h <;> cases h
  · next hb => exact .inl ⟨hb, rfl⟩
  · next hb => exact .inr ⟨hb, rfl⟩

theorem exec_gfinv_cases {a : Byte} (h : exec (.gfinv a) s = .next t) :
    (a = 0x00#8 ∧ t = complete .divZero s) ∨ (a ≠ 0x00#8 ∧ t = gfResult (gfInv a) s) := by
  simp only [exec, execGfinv] at h
  split at h <;> cases h
  · next ha => exact .inl ⟨ha, rfl⟩
  · next ha => exact .inr ⟨ha, rfl⟩

theorem exec_gflog_cases {a : Byte} (h : exec (.gflog a) s = .next t) :
    (a = 0x00#8 ∧ t = complete .logZero s) ∨ (a ≠ 0x00#8 ∧ t = gfResult (logAt a) s) := by
  simp only [exec, execGflog] at h
  split at h <;> cases h
  · next ha => exact .inl ⟨ha, rfl⟩
  · next ha => exact .inr ⟨ha, rfl⟩

theorem exec_rsgen_cases {n : Byte} (h : exec (.rsgen n) s = .next t) :
    (¬(1 ≤ immNat n ∧ immNat n ≤ Config.pNecMax) ∧ t = complete .rsN s) ∨
    ((1 ≤ immNat n ∧ immNat n ≤ Config.pNecMax) ∧ t = complete .none (setGenerator (immNat n) s)) := by
  simp only [exec, execRsgen] at h
  split at h <;> cases h
  · next hn => exact .inr ⟨hn, rfl⟩
  · next hn => exact .inl ⟨hn, rfl⟩

/-- RSENC's three refusals in order, and its effect (R184). -/
theorem exec_rsenc_cases {k n : Byte} (h : exec (.rsenc k n) s = .next t) :
    (¬(1 ≤ immNat n ∧ immNat n ≤ Config.pNecMax) ∧ t = complete .rsN s) ∨
    ((1 ≤ immNat n ∧ immNat n ≤ Config.pNecMax) ∧
      ((¬(1 ≤ immNat k ∧ immNat k + immNat n ≤ Config.pKnMax) ∧ t = complete .rsK s) ∨
       ((1 ≤ immNat k ∧ immNat k + immNat n ≤ Config.pKnMax) ∧
         ((¬(rsencSrc s + immNat k ≤ Config.pCwramBytes ∧ rsencDst s + immNat n ≤ Config.pCwramBytes) ∧
            t = complete .rsRange s) ∨
          ((rsencSrc s + immNat k ≤ Config.pCwramBytes ∧ rsencDst s + immNat n ≤ Config.pCwramBytes) ∧
            t = complete .none { setGenerator (immNat n) s with
              cw := Memory.writeBlock (rsencDst s) (rsencResult (immNat k) (immNat n) s) s.cw }))))) := by
  simp only [exec, execRsenc] at h
  split at h
  · next hn => cases h; exact .inl ⟨hn, rfl⟩
  · next hn =>
    refine .inr ⟨not_not.mp hn, ?_⟩
    split at h
    · next hk => cases h; exact .inl ⟨hk, rfl⟩
    · next hk =>
      refine .inr ⟨not_not.mp hk, ?_⟩
      split at h
      · next hr => cases h; exact .inl ⟨hr, rfl⟩
      · next hr => cases h; exact .inr ⟨not_not.mp hr, rfl⟩

theorem exec_minit_cases {v : Byte} (h : exec (.minit v) s = .next t) :
    (¬(1 ≤ immNat v ∧ immNat v ≤ Config.pVmax) ∧ t = complete .mxVersion s) ∨
    ((1 ≤ immNat v ∧ immNat v ≤ Config.pVmax) ∧ t = complete .none (startSymbol (immNat v) s)) := by
  simp only [exec, execMinit] at h
  split at h <;> cases h
  · next hv => exact .inr ⟨hv, rfl⟩
  · next hv => exact .inl ⟨hv, rfl⟩

/-- MPLACE's three refusals in order, and its effect (R231). -/
theorem exec_mplace_cases (h : exec .mplace s = .next t) :
    (s.phase ≠ .func ∧ t = complete .mxPhase s) ∨
    (s.phase = .func ∧
      ((¬(mplaceSrc s + mplaceCount s ≤ Config.pCwramBytes) ∧ t = complete .mxRange s) ∨
       (mplaceSrc s + mplaceCount s ≤ Config.pCwramBytes ∧
         ((mplaceCount s ≠ symbolDatamod s / 8 ∧ t = complete .mxCount s) ∨
          (mplaceCount s = symbolDatamod s / 8 ∧
            t = complete .none
              { s with mx := placedMatrix s (mplaceSrc s) (mplaceCount s), phase := .placed }))))) := by
  simp only [exec, execMplace] at h
  split at h
  · next hp => cases h; exact .inl ⟨hp, rfl⟩
  · next hp =>
    refine .inr ⟨not_not.mp hp, ?_⟩
    split at h
    · next hr => cases h; exact .inl ⟨hr, rfl⟩
    · next hr =>
      refine .inr ⟨not_not.mp hr, ?_⟩
      split at h
      · next hc => cases h; exact .inl ⟨hc, rfl⟩
      · next hc => cases h; exact .inr ⟨not_not.mp hc, rfl⟩

theorem exec_mapply_cases {m : Byte} (h : exec (.mapply m) s = .next t) :
    (s.phase ≠ .placed ∧ t = complete .mxPhase s) ∨
    (s.phase = .placed ∧ t = complete .none (applyMask (maskOperand m) s)) := by
  simp only [exec, execMapply] at h
  split at h <;> cases h
  · next hp => exact .inl ⟨hp, rfl⟩
  · next hp => exact .inr ⟨not_not.mp hp, rfl⟩

theorem exec_mscore_cases {m : Byte} (h : exec (.mscore m) s = .next t) :
    (s.phase ≠ .placed ∧ t = complete .mxPhase s) ∨
    (s.phase = .placed ∧ t = complete .none (recordPenalty (maskOperand m) (scoreOf s (maskOperand m)) s)) := by
  simp only [exec, execMscore] at h
  split at h <;> cases h
  · next hp => exact .inl ⟨hp, rfl⟩
  · next hp => exact .inr ⟨not_not.mp hp, rfl⟩

theorem exec_mselect_cases (h : exec .mselect s = .next t) :
    (s.phase ≠ .placed ∧ t = complete .mxPhase s) ∨
    (s.phase = .placed ∧
      t = complete .none (applyMask (selectedMask s)
        { recordPenalty (selectedMask s) (scoreOf s (selectedMask s)) s with
          penM := Vector.ofFn fun m => BitVec.ofNat 32 (totalOf s (BitVec.ofNat 3 m.val)) })) := by
  simp only [exec, execMselect] at h
  split at h <;> cases h
  · next hp => exact .inl ⟨hp, rfl⟩
  · next hp => exact .inr ⟨not_not.mp hp, rfl⟩

theorem exec_mformat_cases {l : Byte} (h : exec (.mformat l) s = .next t) :
    (s.phase ≠ .masked ∧ t = complete .mxPhase s) ∨
    (s.phase = .masked ∧
      t = complete .none
        { s with
          mx := formattedMatrix s (formatWord (levelOperand l) s.mxMask)
          mxVerinfo := verinfoOf s
          mxFormat := formatWord (levelOperand l) s.mxMask
          mxLevel := levelOperand l
          mxLevelValid := true
          phase := .final }) := by
  simp only [exec, execMformat] at h
  split at h <;> cases h
  · next hp => exact .inl ⟨hp, rfl⟩
  · next hp => exact .inr ⟨not_not.mp hp, rfl⟩

end Sys2Proof.Machine
end

