-- ==== Sys2Proof/Laws/Decode.lean ====
section
/-! SUPPORT. The fields of a packed word, and the opcode map's own facts. -/

namespace Sys2Proof

/-- Four bytes as one word, the last the least significant. -/
def word4 (rsv fb fa opc : Byte) : Word := rsv ++ fb ++ fa ++ opc

theorem packWord_eq (opc fa fb : Byte) : packWord opc fa fb = word4 0#8 fb fa opc := rfl

theorem getLsbD_word4 (rsv fb fa opc : Byte) (i : Nat) :
    (word4 rsv fb fa opc).getLsbD i =
      if i < 8 then opc.getLsbD i
      else if i < 16 then fa.getLsbD (i - 8)
      else if i < 24 then fb.getLsbD (i - 16)
      else rsv.getLsbD (i - 24) := by
  show (rsv ++ fb ++ fa ++ opc : BitVec (8 + 8 + 8 + 8)).getLsbD i = _
  simp only [BitVec.getLsbD_append]
  by_cases h1 : i < 8
  · simp [h1]
  · by_cases h2 : i < 16
    · have : i - 8 < 8 := by omega
      simp [h1, h2, this]
    · have h3 : ¬ i - 8 < 8 := by omega
      by_cases h4 : i < 24
      · have h5 : i - 16 < 8 := by omega
        simp [h1, h2, h3, h4, h5, show i - 8 - 8 = i - 16 by omega]
      · have h5 : ¬ i - 16 < 8 := by omega
        simp [h1, h2, h3, h4, h5, show i - 8 - 8 = i - 16 by omega, show i - 16 - 8 = i - 24 by omega]

theorem word4_and (a b c d a' b' c' d' : Byte) :
    word4 a b c d &&& word4 a' b' c' d' = word4 (a &&& a') (b &&& b') (c &&& c') (d &&& d') := by
  apply BitVec.eq_of_getLsbD_eq
  intro i _
  simp only [BitVec.getLsbD_and, getLsbD_word4]
  split
  · rfl
  · split
    · rfl
    · split <;> rfl

@[simp] theorem fieldOPC_word4 (rsv fb fa opc : Byte) : fieldOPC (word4 rsv fb fa opc) = opc := by
  apply BitVec.eq_of_getLsbD_eq
  intro i hi
  simp [fieldOPC, getLsbD_word4, hi]

@[simp] theorem fieldFA_word4 (rsv fb fa opc : Byte) : fieldFA (word4 rsv fb fa opc) = fa := by
  apply BitVec.eq_of_getLsbD_eq
  intro i hi
  have h1 : ¬ 8 + i < 8 := by omega
  have h2 : 8 + i < 16 := by omega
  simp [fieldFA, getLsbD_word4, hi, h2]

@[simp] theorem fieldFB_word4 (rsv fb fa opc : Byte) : fieldFB (word4 rsv fb fa opc) = fb := by
  apply BitVec.eq_of_getLsbD_eq
  intro i hi
  have h1 : ¬ 16 + i < 8 := by omega
  have h2 : 16 + i < 24 := by omega
  simp [fieldFB, getLsbD_word4, hi, h1, h2]

/-- Two opcodes never share a byte. -/
theorem opcodeByte_injective : ∀ o o' : Opcode, opcodeByte o = opcodeByte o' → o = o' := by
  intro o o' h
  cases o <;> cases o' <;> first | rfl | (simp [opcodeByte] at h)

theorem opcodeOf_opcodeByte (o : Opcode) : opcodeOf (opcodeByte o) = some o := by cases o <;> decide

theorem opcodeByte_of_opcodeOf {b : Byte} {o : Opcode} (h : opcodeOf b = some o) : opcodeByte o = b := by
  have := List.find?_some h
  simpa using this

end Sys2Proof
end

