-- ==== Sys2Proof/Laws/Gf.lean ====
section
/-! SUPPORT. The tables are what the loop of 40_gf.md R151 computes, and the table of 42_matrix.md R213 is its closed form. -/

namespace Sys2Proof.Machine

/-- One turn of R151's loop: EXP[i] << 1, reduced by P_FIELD_POLY when bit 8 is 1. -/
def expNext (x : Byte) : Byte :=
  let t := x.toNat <<< 1
  BitVec.ofNat 8 (if t.testBit 8 then t ^^^ Config.pFieldPoly else t)

theorem exp_zero : expAt 0 = 0x01#8 := by decide

/-- EXP[i + 1] for i in 0..253 (R151). -/
theorem exp_succ : ∀ i < 254, expAt (i + 1) = expNext (expAt i) := by decide +kernel

theorem exp_255 : expAt 255 = 0x01#8 := by decide

/-- LOG[EXP[i]] = i for i in 0..254 (R151). -/
theorem log_exp : ∀ i < 255, logAt (expAt i) = BitVec.ofNat 8 i := by decide +kernel

theorem log_zero : logAt 0x00#8 = 0x00#8 := by decide

theorem expTable_length : expTable.length = 256 := by decide +kernel

theorem logTable_length : logTable.length = 256 := by decide +kernel

/-- R213's closed form of the alignment coordinates. -/
def alignClosedForm (v : Nat) : List Nat :=
  if v ≤ 1 then []
  else
    let n := v / 7 + 2
    let step := if v = 32 then 26 else 2 * ((4 * v + 2 * n + 1) / (2 * n - 2))
    6 :: ((List.range (n - 1)).reverse.map fun i => sideOf v - 7 - i * step)

theorem alignCoords_closed_form : ∀ v < 41, alignCoords v = alignClosedForm v := by decide +kernel

end Sys2Proof.Machine
end

