-- ==== Sys2Proof/Laws/Ops.lean ====
section
/-! SUPPORT. What the named operations do: reads after writes of the codeword RAM, its canonical form, and cells of the
matrix after tabulate and setVal. -/

namespace Sys2Proof.Machine

/-! ### The codeword RAM -/

theorem Memory.read_write_same (a : Nat) (v : Byte) (m : Memory) : (Memory.write a v m).read a = some v := by
  induction m with
  | nil => simp [Memory.write, Memory.read]
  | cons x m ih =>
    obtain ⟨b, w⟩ := x
    simp only [Memory.read] at ih ⊢
    by_cases h1 : a < b
    · simp [Memory.write, h1]
    · by_cases h2 : a = b
      · simp [Memory.write, h2]
      · have : ¬(a == b) := by simpa using h2
        simp [Memory.write, h1, h2, List.lookup_cons, this, ih]

theorem Memory.read_write_other {a b : Nat} (h : b ≠ a) (v : Byte) (m : Memory) :
    (Memory.write a v m).read b = m.read b := by
  have hba : (b == a) = false := by simpa using h
  induction m with
  | nil => simp [Memory.write, Memory.read, List.lookup_cons, hba]
  | cons x m ih =>
    obtain ⟨k, w⟩ := x
    simp only [Memory.read] at ih ⊢
    by_cases h1 : a < k
    · simp [Memory.write, h1, List.lookup_cons, hba]
    · by_cases h2 : a = k
      · subst h2; simp [Memory.write, List.lookup_cons, hba]
      · simp [Memory.write, h1, h2, List.lookup_cons, ih]

theorem Memory.read_write (a b : Nat) (v : Byte) (m : Memory) :
    (Memory.write a v m).read b = if b = a then some v else m.read b := by
  by_cases h : b = a
  · subst h; simp [Memory.read_write_same]
  · simp [h, Memory.read_write_other h]

/-- A block write, read back: inside the block the written byte, outside it what was there. -/
theorem Memory.read_writeBlock (vs : List Byte) (a b : Nat) (m : Memory) :
    (Memory.writeBlock a vs m).read b =
      if a ≤ b ∧ b < a + vs.length then vs[b - a]? else m.read b := by
  induction vs generalizing a m with
  | nil => simp [Memory.writeBlock]
  | cons v vs ih =>
    rw [Memory.writeBlock, ih, Memory.read_write]
    by_cases hb : b = a
    · subst hb
      simp
    · by_cases hin : a + 1 ≤ b ∧ b < a + 1 + vs.length
      · have h2 : a ≤ b ∧ b < a + (v :: vs).length := by simp only [List.length_cons]; omega
        rw [if_pos hin, if_pos h2]
        have : b - a = (b - (a + 1)) + 1 := by omega
        rw [this, List.getElem?_cons_succ]
      · have h2 : ¬(a ≤ b ∧ b < a + (v :: vs).length) := by simp only [List.length_cons]; omega
        rw [if_neg hin, if_neg h2, if_neg hb]

theorem Memory.mem_write {a : Nat} {v : Byte} {m : Memory} {x : Host.Cell} (h : x ∈ Memory.write a v m) :
    x = (a, v) ∨ x ∈ m := by
  induction m with
  | nil => simpa [Memory.write] using h
  | cons y m ih =>
    obtain ⟨b, w⟩ := y
    by_cases h1 : a < b
    · simpa [Memory.write, h1] using h
    · by_cases h2 : a = b
      · simp only [Memory.write, h2, lt_irrefl, if_false, if_true] at h
        rcases List.mem_cons.mp h with h | h
        · exact .inl (by simpa [h2] using h)
        · exact .inr (List.mem_cons_of_mem _ h)
      · simp only [Memory.write, h1, h2, if_false] at h
        rcases List.mem_cons.mp h with h | h
        · exact .inr (by simp [h])
        · rcases ih h with h | h
          · exact .inl h
          · exact .inr (List.mem_cons_of_mem _ h)

/-- A write at an offset of the RAM keeps the canonical form. -/
theorem Memory.wf_write {a : Nat} (ha : a < Config.pCwramBytes) (v : Byte) {m : Memory} (h : m.wf = true) :
    (Memory.write a v m).wf = true := by
  simp only [Memory.wf, Bool.and_eq_true, decide_eq_true_eq, List.all_eq_true] at h ⊢
  obtain ⟨hp, hb⟩ := h
  refine ⟨?_, fun x hx => ?_⟩
  · clear hb
    induction m with
    | nil => simp [Memory.write]
    | cons y m ih =>
      obtain ⟨b, w⟩ := y
      rw [List.pairwise_cons] at hp
      by_cases h1 : a < b
      · simp only [Memory.write, h1, if_true, List.pairwise_cons]
        refine ⟨fun z hz => ?_, hp.1, hp.2⟩
        rcases List.mem_cons.mp hz with hz | hz
        · simpa [hz] using h1
        · exact lt_trans h1 (hp.1 z hz)
      · by_cases h2 : a = b
        · subst h2
          simp only [Memory.write, lt_irrefl, if_false, if_true, List.pairwise_cons]
          exact ⟨hp.1, hp.2⟩
        · simp only [Memory.write, h1, h2, if_false, List.pairwise_cons]
          refine ⟨fun z hz => ?_, ih hp.2⟩
          rcases Memory.mem_write hz with hz | hz
          · subst hz; exact lt_of_le_of_ne (not_lt.mp h1) (Ne.symm h2)
          · exact hp.1 z hz
  · rcases Memory.mem_write hx with hx | hx
    · subst hx; exact ha
    · exact hb x hx

/-- A block write inside the RAM keeps the canonical form. -/
theorem Memory.wf_writeBlock {a : Nat} (vs : List Byte) (ha : a + vs.length ≤ Config.pCwramBytes) {m : Memory}
    (h : m.wf = true) : (Memory.writeBlock a vs m).wf = true := by
  induction vs generalizing a m with
  | nil => exact h
  | cons v vs ih =>
    simp only [List.length_cons] at ha
    exact ih (by omega) (Memory.wf_write (by omega) v h)

theorem reset_memory_wf : State.reset.cw.wf = true := rfl

/-- CW[b] after a block write. -/
theorem cwByte_writeBlock (s : State) (a : Nat) (vs : List Byte) (b : Nat) :
    cwByte { s with cw := Memory.writeBlock a vs s.cw } b =
      if a ≤ b ∧ b < a + vs.length then vs.getD (b - a) 0x00#8 else cwByte s b := by
  simp only [cwByte, Memory.read_writeBlock]
  by_cases h : a ≤ b ∧ b < a + vs.length
  · have hlt : b - a < vs.length := by omega
    simp [h, List.getD_eq_getElem?_getD, List.getElem?_eq_getElem hlt]
  · simp [h]

@[simp] theorem length_cwBlock (s : State) (src k : Nat) : (cwBlock s src k).length = k := by simp [cwBlock]

/-! ### The module matrix -/

@[simp] theorem getElem_tabulateLine {α : Type} (f : Nat → α) (i : Nat) (h : i < 177) : (tabulateLine f)[i] = f i := by
  simp [tabulateLine]

theorem cellAt_tabulate (f : Nat → Nat → Cell) (r c : Nat) :
    cellAt (tabulate f) r c = if r < 177 ∧ c < 177 then f r c else blankCell := by
  unfold cellAt
  by_cases h : r < 177 ∧ c < 177
  · simp [h, tabulate]
  · simp [h]

theorem cellAt_outside {mx : Matrix} {r c : Nat} (h : ¬(r < 177 ∧ c < 177)) : cellAt mx r c = blankCell := by
  simp [cellAt, h]

/-- A cell after setVal: the named cell has the new value, its mark and every other cell are as before. -/
theorem cellAt_setVal (mx : Matrix) (r c : Nat) (v : CellVal) (r' c' : Nat) :
    cellAt (setVal mx r c v) r' c' =
      if r' = r ∧ c' = c ∧ r < 177 ∧ c < 177 then { cellAt mx r c with val := v } else cellAt mx r' c' := by
  unfold setVal
  by_cases h : r < 177 ∧ c < 177
  · simp only [h, and_self, dif_pos, and_true]
    by_cases h' : r' < 177 ∧ c' < 177
    · simp only [cellAt, h, h', and_self, dif_pos, Vector.getElem_set]
      by_cases hr : r' = r
      · subst hr
        by_cases hc : c' = c
        · subst hc; simp
        · simp [hc, Ne.symm hc]
      · simp [hr, Ne.symm hr]
    · have hne : ¬(r' = r ∧ c' = c) := by rintro ⟨rfl, rfl⟩; exact h' h
      simp [hne, cellAt_outside h']
  · rw [dif_neg h, if_neg fun x => h x.2.2]

theorem fn_setVal (mx : Matrix) (r c : Nat) (v : CellVal) (r' c' : Nat) :
    (cellAt (setVal mx r c v) r' c').fn = (cellAt mx r' c').fn := by
  rw [cellAt_setVal]
  split
  · next h => simp [h.1, h.2.1]
  · rfl

/-- Setting cells one after the other never changes a cell's mark (R219). -/
theorem fn_foldl_setVal {α : Type} (cells : List α) (pos : α → Nat × Nat) (val : α → CellVal) (mx : Matrix) (r c : Nat) :
    (cellAt (cells.foldl (fun mx p => setVal mx (pos p).1 (pos p).2 (val p)) mx) r c).fn = (cellAt mx r c).fn := by
  induction cells generalizing mx with
  | nil => rfl
  | cons p cells ih => rw [List.foldl_cons, ih, fn_setVal]

/-- Setting cells one after the other leaves a cell that is none of them as it was. -/
theorem cellAt_foldl_setVal_other {α : Type} (cells : List α) (pos : α → Nat × Nat) (val : α → CellVal) (mx : Matrix)
    {r c : Nat} (h : ∀ p ∈ cells, pos p ≠ (r, c)) :
    cellAt (cells.foldl (fun mx p => setVal mx (pos p).1 (pos p).2 (val p)) mx) r c = cellAt mx r c := by
  induction cells generalizing mx with
  | nil => rfl
  | cons p cells ih =>
    rw [List.foldl_cons, ih _ fun q hq => h q (List.mem_cons_of_mem _ hq), cellAt_setVal, if_neg]
    rintro ⟨hr, hc, -⟩
    exact h p List.mem_cons_self (Prod.ext hr.symm hc.symm)

/-- Setting distinct cells one after the other gives each of them its value. -/
theorem cellAt_foldl_setVal_mem {α : Type} (cells : List α) (pos : α → Nat × Nat) (val : α → CellVal) (mx : Matrix)
    (hd : cells.Pairwise fun x y => pos x ≠ pos y) {p : α} (hp : p ∈ cells)
    (hr : (pos p).1 < 177) (hc : (pos p).2 < 177) :
    cellAt (cells.foldl (fun mx p => setVal mx (pos p).1 (pos p).2 (val p)) mx) (pos p).1 (pos p).2 =
      { cellAt mx (pos p).1 (pos p).2 with val := val p } := by
  induction cells generalizing mx with
  | nil => cases hp
  | cons q cells ih =>
    rw [List.pairwise_cons] at hd
    rw [List.foldl_cons]
    rcases List.mem_cons.mp hp with rfl | hp
    · rw [cellAt_foldl_setVal_other cells pos val _ fun y hy => Ne.symm (hd.1 y hy), cellAt_setVal, if_pos ⟨rfl, rfl, hr, hc⟩]
    · rw [ih _ hd.2 hp, cellAt_setVal, if_neg]
      rintro ⟨h1, h2, -⟩
      exact hd.1 p hp (Prod.ext h1.symm h2.symm)

end Sys2Proof.Machine
end

