-- ==== Sys2Proof/Laws/PerInstr.lean ====
section
/-! SUPPORT. Statements made of every command, one lemma per constructor. -/

namespace Sys2Proof.Laws.TableBits

/-- The "mask" of the command's row of spec/opcode_table.json: 1 at each fixed digit of its pattern (30_encoding.md R128). -/
def rowMask : Instr → Word
  | .nop => 0xFFFFFFFF#32
  | .gfadd _ _ => 0xFF0000FF#32
  | .gfmul _ _ => 0xFF0000FF#32
  | .gfdiv _ _ => 0xFF0000FF#32
  | .gfinv _ => 0xFFFF00FF#32
  | .gfexp _ => 0xFFFF00FF#32
  | .gflog _ => 0xFFFF00FF#32
  | .rsgen _ => 0xFFFF00FF#32
  | .rsenc _ _ => 0xFF0000FF#32
  | .minit _ => 0xFFFF00FF#32
  | .mplace => 0xFFFFFFFF#32
  | .mapply _ => 0xFFFFF8FF#32
  | .mscore _ => 0xFFFFF8FF#32
  | .mselect => 0xFFFFFFFF#32
  | .mformat _ => 0xFFFFFCFF#32

/-- The "match" of the command's row: the fixed digits' values (R128). -/
def rowMatch : Instr → Word
  | .nop => 0x00000000#32
  | .gfadd _ _ => 0x00000001#32
  | .gfmul _ _ => 0x00000002#32
  | .gfdiv _ _ => 0x00000003#32
  | .gfinv _ => 0x00000004#32
  | .gfexp _ => 0x00000005#32
  | .gflog _ => 0x00000006#32
  | .rsgen _ => 0x00000010#32
  | .rsenc _ _ => 0x00000011#32
  | .minit _ => 0x00000020#32
  | .mplace => 0x00000021#32
  | .mapply _ => 0x00000022#32
  | .mscore _ => 0x00000023#32
  | .mselect => 0x00000024#32
  | .mformat _ => 0x00000025#32

/-- A well-formed command's word has exactly its row's fixed bits. -/
def Statement (i : Instr) : Prop := WellFormed i = true → encode i &&& rowMask i = rowMatch i

theorem mask_high_bits : ∀ m : Byte, maskFits m = true → m &&& 0xF8#8 = 0#8 := by decide

theorem level_high_bits : ∀ l : Byte, levelFits l = true → l &&& 0xFC#8 = 0#8 := by decide

theorem nop : Statement .nop := fun _ => by
  show word4 0#8 0#8 0#8 0x00#8 &&& word4 0xFF#8 0xFF#8 0xFF#8 0xFF#8 = word4 0#8 0#8 0#8 0x00#8
  rw [word4_and]; simp

theorem gfadd (a b : Byte) : Statement (.gfadd a b) := fun _ => by
  show word4 0#8 b a 0x01#8 &&& word4 0xFF#8 0x00#8 0x00#8 0xFF#8 = word4 0#8 0#8 0#8 0x01#8
  rw [word4_and]; simp

theorem gfmul (a b : Byte) : Statement (.gfmul a b) := fun _ => by
  show word4 0#8 b a 0x02#8 &&& word4 0xFF#8 0x00#8 0x00#8 0xFF#8 = word4 0#8 0#8 0#8 0x02#8
  rw [word4_and]; simp

theorem gfdiv (a b : Byte) : Statement (.gfdiv a b) := fun _ => by
  show word4 0#8 b a 0x03#8 &&& word4 0xFF#8 0x00#8 0x00#8 0xFF#8 = word4 0#8 0#8 0#8 0x03#8
  rw [word4_and]; simp

theorem gfinv (a : Byte) : Statement (.gfinv a) := fun _ => by
  show word4 0#8 0#8 a 0x04#8 &&& word4 0xFF#8 0xFF#8 0x00#8 0xFF#8 = word4 0#8 0#8 0#8 0x04#8
  rw [word4_and]; simp

theorem gfexp (e : Byte) : Statement (.gfexp e) := fun _ => by
  show word4 0#8 0#8 e 0x05#8 &&& word4 0xFF#8 0xFF#8 0x00#8 0xFF#8 = word4 0#8 0#8 0#8 0x05#8
  rw [word4_and]; simp

theorem gflog (a : Byte) : Statement (.gflog a) := fun _ => by
  show word4 0#8 0#8 a 0x06#8 &&& word4 0xFF#8 0xFF#8 0x00#8 0xFF#8 = word4 0#8 0#8 0#8 0x06#8
  rw [word4_and]; simp

theorem rsgen (n : Byte) : Statement (.rsgen n) := fun _ => by
  show word4 0#8 0#8 n 0x10#8 &&& word4 0xFF#8 0xFF#8 0x00#8 0xFF#8 = word4 0#8 0#8 0#8 0x10#8
  rw [word4_and]; simp

theorem rsenc (k n : Byte) : Statement (.rsenc k n) := fun _ => by
  show word4 0#8 n k 0x11#8 &&& word4 0xFF#8 0x00#8 0x00#8 0xFF#8 = word4 0#8 0#8 0#8 0x11#8
  rw [word4_and]; simp

theorem minit (v : Byte) : Statement (.minit v) := fun _ => by
  show word4 0#8 0#8 v 0x20#8 &&& word4 0xFF#8 0xFF#8 0x00#8 0xFF#8 = word4 0#8 0#8 0#8 0x20#8
  rw [word4_and]; simp

theorem mplace : Statement .mplace := fun _ => by
  show word4 0#8 0#8 0#8 0x21#8 &&& word4 0xFF#8 0xFF#8 0xFF#8 0xFF#8 = word4 0#8 0#8 0#8 0x21#8
  rw [word4_and]; simp

theorem mapply (m : Byte) : Statement (.mapply m) := fun h => by
  show word4 0#8 0#8 m 0x22#8 &&& word4 0xFF#8 0xFF#8 0xF8#8 0xFF#8 = word4 0#8 0#8 0#8 0x22#8
  rw [word4_and, mask_high_bits m h]; rfl

theorem mscore (m : Byte) : Statement (.mscore m) := fun h => by
  show word4 0#8 0#8 m 0x23#8 &&& word4 0xFF#8 0xFF#8 0xF8#8 0xFF#8 = word4 0#8 0#8 0#8 0x23#8
  rw [word4_and, mask_high_bits m h]; rfl

theorem mselect : Statement .mselect := fun _ => by
  show word4 0#8 0#8 0#8 0x24#8 &&& word4 0xFF#8 0xFF#8 0xFF#8 0xFF#8 = word4 0#8 0#8 0#8 0x24#8
  rw [word4_and]; simp

theorem mformat (l : Byte) : Statement (.mformat l) := fun h => by
  show word4 0#8 0#8 l 0x25#8 &&& word4 0xFF#8 0xFF#8 0xFC#8 0xFF#8 = word4 0#8 0#8 0#8 0x25#8
  rw [word4_and, level_high_bits l h]; rfl

end Sys2Proof.Laws.TableBits
end

