-- ==== Sys2Proof/Laws/Step.lean ====
section
/-! SUPPORT. What one step can do, said once: the inversion lemmas of step, of the engine's step and of a host access. -/

namespace Sys2Proof.Machine

variable {s t : State}

theorem step_cases (h : step s = .next t) :
    (s.inputs = [] ∧ engineTurn s = .next t) ∨
    (∃ x rest, s.inputs = x :: rest ∧ inputStep x rest s = .next t) := by
  unfold step at h
  split at h
  · next hi => exact .inl ⟨hi, h⟩
  · next x rest hi => exact .inr ⟨x, rest, hi, h⟩

theorem engineStep_cases (h : engineStep s = .next t) :
    (∃ i, decode s.lword = .ok i ∧ exec i s = .next t) ∨
    (∃ e, decode s.lword = .error e ∧ t = complete (decodeErrCode e) s) := by
  unfold engineStep at h
  split at h
  · next i hi => exact .inl ⟨i, hi, h⟩
  · next e he => cases h; exact .inr ⟨e, he, rfl⟩

theorem engineTurn_cases (h : engineTurn s = .next t) :
    (s.pend = true ∧ engineStep s = .next t) ∨ (s.pend = false ∧ t = s) := by
  unfold engineTurn at h
  split at h
  · next hp => exact .inl ⟨hp, h⟩
  · next hp => cases h; exact .inr ⟨by simpa using hp, rfl⟩

/-- Every step is the engine's (from this state, or from it with its turn taken off the inputs), a host access, a hardware
reset, or nothing. -/
theorem step_agents (h : step s = .next t) :
    (∃ u, (u = s ∨ ∃ rest, s.inputs = .engineTurn :: rest ∧ u = takeInput rest s) ∧ s.pend = true ∧ engineStep u = .next t) ∨
    (∃ op rest x, s.inputs = x :: rest ∧ t = busAccess op (takeInput rest s)) ∨
    (∃ rest, s.inputs = .hardReset :: rest ∧ t = hardReset (takeInput rest s)) ∨
    t = s ∨ (∃ rest, s.inputs = .engineTurn :: rest ∧ s.pend = false ∧ t = takeInput rest s) := by
  rcases step_cases h with ⟨-, h⟩ | ⟨x, rest, hi, h⟩
  · rcases engineTurn_cases h with ⟨hp, h⟩ | ⟨-, rfl⟩
    · exact .inl ⟨s, .inl rfl, hp, h⟩
    · exact .inr (.inr (.inr (.inl rfl)))
  · cases x with
    | bus op => cases h; exact .inr (.inl ⟨op, rest, _, hi, rfl⟩)
    | wait =>
      simp only [inputStep] at h
      split at h
      · next hp => exact .inl ⟨s, .inl rfl, hp, h⟩
      · cases h; exact .inr (.inl ⟨_, rest, _, hi, rfl⟩)
    | engineTurn =>
      rcases engineTurn_cases h with ⟨hp, h⟩ | ⟨hp, rfl⟩
      · exact .inl ⟨_, .inr ⟨rest, hi, rfl⟩, hp, h⟩
      · exact .inr (.inr (.inr (.inr ⟨rest, hi, hp, rfl⟩)))
    | hardReset => cases h; exact .inr (.inr (.inl ⟨rest, hi, rfl⟩))

theorem writeReg_cases {r : Reg} {w : Word} (h : writeReg r w s = some t) :
    t = softReset s ∨ (∃ b, t = { s with irqen := b }) ∨ t = clearStatus w s ∨
    (s.pend = true ∧ t = setOvr s) ∨ (s.pend = false ∧ t = acceptCommand w s) ∨
    (∃ v, t = { s with rsSrc := v }) ∨ (∃ v, t = { s with rsDst := v }) ∨
    (∃ v, t = { s with plSrc := v }) ∨ (∃ v, t = { s with plCount := v }) := by
  cases r with
  | ctrl =>
    simp only [writeReg, writeCtrl, Option.some.injEq] at h
    split at h
    · exact .inl h.symm
    · exact .inr (.inl ⟨_, h.symm⟩)
  | status => simp only [writeReg, Option.some.injEq] at h; exact .inr (.inr (.inl h.symm))
  | cmd =>
    simp only [writeReg, writeCmd, Option.some.injEq] at h
    split at h
    · next hp => exact .inr (.inr (.inr (.inl ⟨hp, h.symm⟩)))
    · next hp => exact .inr (.inr (.inr (.inr (.inl ⟨by simpa using hp, h.symm⟩))))
  | rsSrc =>
    simp only [writeReg, Option.some.injEq] at h
    exact .inr (.inr (.inr (.inr (.inr (.inl ⟨_, h.symm⟩)))))
  | rsDst =>
    simp only [writeReg, Option.some.injEq] at h
    exact .inr (.inr (.inr (.inr (.inr (.inr (.inl ⟨_, h.symm⟩))))))
  | plSrc =>
    simp only [writeReg, Option.some.injEq] at h
    exact .inr (.inr (.inr (.inr (.inr (.inr (.inr (.inl ⟨_, h.symm⟩)))))))
  | plCount =>
    simp only [writeReg, Option.some.injEq] at h
    exact .inr (.inr (.inr (.inr (.inr (.inr (.inr (.inr ⟨_, h.symm⟩)))))))
  | _ => simp [writeReg] at h

theorem length_splitBytes (n : Size) (w : Word) : (splitBytes n w).length = sizeBytes n := by simp [splitBytes]

/-- What a write that is not rejected does: a register's effect, or bytes of the codeword RAM while the engine is idle. -/
theorem busWrite_cases {a : Nat} {n : Size} {w : Word} (h : busWrite a n w s = some t) :
    (∃ r, writeReg r w s = some t) ∨
    (s.pend = false ∧ 0x01000 ≤ a ∧ a + sizeBytes n ≤ 0x02000 ∧
      t = { s with cw := Memory.writeBlock (a - 0x01000) (splitBytes n w) s.cw }) := by
  unfold busWrite at h
  split at h
  · cases h
  · next hal =>
    have hal : a % sizeBytes n = 0 := by simpa [aligned] using hal
    split at h
    · split at h
      · obtain ⟨r, -, hr⟩ := Option.bind_eq_some_iff.mp h
        exact .inl ⟨r, hr⟩
      · cases h
    · next hreg =>
      have hlo : 0x01000 ≤ a ∧ a < 0x02000 := by
        unfold regionOf at hreg
        split at hreg <;> try cases hreg
        split at hreg <;> try cases hreg
        split at hreg <;> try cases hreg
        split at hreg <;> try cases hreg
        split at hreg <;> try cases hreg
        split at hreg <;> try cases hreg
        · constructor <;> omega
        · split at hreg <;> cases hreg
      split at h
      · cases h
      · next hp =>
        refine .inr ⟨by simpa [blockedWhileBusy] using hp, hlo.1, ?_, (Option.some.inj h).symm⟩
        cases n <;> simp only [sizeBytes] at hal ⊢ <;> omega
    all_goals cases h

/-- What one host access can do. -/
theorem busAccess_cases (op : BusOp) :
    (∃ w, busAccess op s = { s with busData := w }) ∨
    (busAccess op s = setAccerr { s with busData := 0#32 }) ∨ (busAccess op s = setAccerr s) ∨
    (∃ a n w, op = .write a n w ∧ busWrite a.toNat n w s = some (busAccess op s)) := by
  cases op with
  | read a n =>
    simp only [busAccess]
    split
    · exact .inl ⟨_, rfl⟩
    · exact .inr (.inl rfl)
  | write a n w =>
    simp only [busAccess]
    split
    · next t ht => exact .inr (.inr (.inr ⟨a, n, w, rfl, ht⟩))
    · exact .inr (.inr (.inl rfl))

end Sys2Proof.Machine
end

