-- ==== Sys2Proof/Tests/Slice0.lean ====
section
/-! SUPPORT. Small tests, each of one step, with expected values from the spec's own examples and vectors (named in each
docstring) or worked by hand from a rule, and for every obligation with hypotheses a state and operands that meet them. -/

namespace Sys2Proof.Tests

open Sys2Proof.Machine

/-! ### Helpers -/

/-- The state after one step in which the word `w` runs. -/
def afterWord (s : State) (w : Nat) : State :=
  match step (s.withFetchWord 32 w) with
  | .next t => t
  | .fault _ => s
  | .refused _ => s

/-- The code a word completes with. -/
def codeOf (s : State) (w : Nat) : ErrCode := (afterWord s w).errcode

/-- A state in a phase, with a symbol of this version, side and data-module count. -/
def inPhase (p : Phase) (version side datamod : Nat) : State :=
  { State.reset with
    phase := p, mxVersion := BitVec.ofNat 6 version, mxSize := BitVec.ofNat 8 side, mxDatamod := BitVec.ofNat 15 datamod }

/-- The state with this word pending and these inputs to come. -/
def pending (w : Word) (inputs : List Input) : State :=
  { State.reset with pend := true, lword := w, cmd := w, inputs := inputs }

/-! ### Well-formedness: an ill-formed command for each check -/

/-- R129: a mask above 7 is refused. -/
theorem test_wf_mask : WellFormed (.mapply 8#8) = false ∧ WellFormed (.mscore 8#8) = false ∧ WellFormed (.mapply 7#8) = true := by
  decide

/-- R129: a level above 3 is refused. -/
theorem test_wf_level : WellFormed (.mformat 4#8) = false ∧ WellFormed (.mformat 3#8) = true := by decide

/-! ### Decoding: words written out from the patterns of R128 -/

/-- R128, system. -/
theorem test_decode_nop : decode 0b00000000000000000000000000000000#32 = .ok .nop := by decide

/-- R128, GF unit, two operands: b in 23:16, a in 15:8. -/
theorem test_decode_gf2 :
    decode 0b00000000110010100101001100000001#32 = .ok (.gfadd 0x53#8 0xCA#8) ∧
    decode 0b00000000110010100101001100000010#32 = .ok (.gfmul 0x53#8 0xCA#8) ∧
    decode 0b00000000100000000000001000000011#32 = .ok (.gfdiv 0x02#8 0x80#8) := by decide

/-- R128, GF unit, one operand. -/
theorem test_decode_gf1 :
    decode 0b00000000000000000000001000000100#32 = .ok (.gfinv 0x02#8) ∧
    decode 0b00000000000000001111111100000101#32 = .ok (.gfexp 0xFF#8) ∧
    decode 0b00000000000000000101001100000110#32 = .ok (.gflog 0x53#8) := by decide

/-- R128, RS unit: k in 15:8, n in 23:16. -/
theorem test_decode_rs :
    decode 0b00000000000000000000011100010000#32 = .ok (.rsgen 7#8) ∧
    decode 0b00000000000010100001000000010001#32 = .ok (.rsenc 16#8 10#8) := by decide

/-- R128, matrix unit. -/
theorem test_decode_matrix :
    decode 0b00000000000000000010100000100000#32 = .ok (.minit 40#8) ∧
    decode 0b00000000000000000000000000100001#32 = .ok .mplace ∧
    decode 0b00000000000000000000010100100010#32 = .ok (.mapply 5#8) ∧
    decode 0b00000000000000000000001100100101#32 = .ok (.mformat 3#8) := by decide

/-- R128, mask unit. -/
theorem test_decode_mask :
    decode 0b00000000000000000000011100100011#32 = .ok (.mscore 7#8) ∧
    decode 0b00000000000000000000000000100100#32 = .ok .mselect := by decide

/-- Vectors section 7: unassigned opcodes, the opcode checked before the reserved bits. -/
theorem test_decode_illegal :
    decode 0x00000007#32 = .error .illegal ∧ decode 0x00000012#32 = .error .illegal ∧
    decode 0xFF000026#32 = .error .illegal := by decide

/-- Vectors section 7: nonzero reserved bits. -/
theorem test_decode_reserved :
    decode 0x01000000#32 = .error .reserved ∧ decode 0x80000011#32 = .error .reserved ∧
    decode 0x00010204#32 = .error .reserved ∧ decode 0x00000822#32 = .error .reserved ∧
    decode 0x00000425#32 = .error .reserved := by decide

/-- R131: the words of the examples. -/
theorem test_encode_examples :
    encode (.gfmul 0x53#8 0xCA#8) = 0x00CA5302#32 ∧ encode (.rsenc 16#8 10#8) = 0x000A1011#32 ∧
    encode (.mformat 3#8) = 0x00000325#32 := by decide

/-- R129, R131: MFORMAT H assembles to ordinal 3, a mask of 8 is refused. -/
theorem test_assemble :
    (assemble "MFORMAT" [.levelH]).map encode = some 0x00000325#32 ∧ assemble "MAPPLY" [.num 8] = none := by decide

/-! ### One step of each command -/

/-- R290: NOP clears ERR and ERRCODE and sets DONE. -/
theorem test_nop :
    statusWord (afterWord { State.reset with err := true, errcode := .divZero } 0x00000000) = 0x002#32 := by
  decide +kernel

/-- Vectors section 2. -/
theorem test_gfadd : (afterWord State.reset 0x00CA5301).gfR = 0x99#8 := by decide +kernel

/-- Vectors section 2: a product that is reduced, and a zero operand. -/
theorem test_gfmul :
    (afterWord State.reset 0x00CA5302).gfR = 0x8F#8 ∧ (afterWord State.reset 0x00370002).gfR = 0x00#8 := by decide +kernel

/-- Vectors section 2: a negative difference of logarithms; division by zero. -/
theorem test_gfdiv :
    (afterWord State.reset 0x00800203).gfR = 0x36#8 ∧ codeOf State.reset 0x00003703 = .divZero := by decide +kernel

/-- Vectors section 2. -/
theorem test_gfinv :
    (afterWord State.reset 0x00005304).gfR = 0x8C#8 ∧ codeOf State.reset 0x00000004 = .divZero := by decide +kernel

/-- Vectors section 2: index 255. -/
theorem test_gfexp :
    (afterWord State.reset 0x00001905).gfR = 0x03#8 ∧ (afterWord State.reset 0x0000FF05).gfR = 0x01#8 := by decide +kernel

/-- Vectors section 2. -/
theorem test_gflog :
    (afterWord State.reset 0x00005306).gfR = 0xCE#8 ∧ codeOf State.reset 0x00000006 = .logZero := by decide +kernel

/-- Vectors section 3.1, listed there from GEN[7] down to GEN[0]. -/
theorem test_rsgen :
    (List.range 9).map (genAt (afterWord State.reset 0x00000710).gen) =
      [0x75#8, 0x44#8, 0x0B#8, 0xA4#8, 0x9A#8, 0x7A#8, 0x7F#8, 0x01#8, 0x00#8] := by decide +kernel

/-- Vectors section 3.2, row RS8: data 01 to 05 at 0, RS_DST = 5. -/
theorem test_rsenc :
    cwBlock (afterWord { State.reset with
        rsDst := 5#12, cw := [(0, 1#8), (1, 2#8), (2, 3#8), (3, 4#8), (4, 5#8)] } 0x00050511) 5 5 =
      [0x43#8, 0x1C#8, 0xA2#8, 0x46#8, 0xBA#8] := by decide +kernel

/-- Vectors section 3.3: n before k, k before the range. -/
theorem test_rsenc_errors :
    codeOf State.reset 0x00000011 = .rsN ∧ codeOf State.reset 0x001EE211 = .rsK ∧
    codeOf { State.reset with rsSrc := 4081#12 } 0x000A1011 = .rsRange := by decide +kernel

/-- Vectors section 4.1: cell bytes of version 1. -/
theorem test_minit :
    (let t := startSymbol 1 State.reset
     (matrixByte t 0 0, matrixByte t 7 7, matrixByte t 0 8, matrixByte t 13 8, matrixByte t 20 20, matrixByte t 0 21)) =
      (0x07#8, 0x06#8, 0x04#8, 0x07#8, 0x00#8, 0x00#8) := by decide +kernel

/-- Vectors section 4.2: version 7, an alignment ring across the timing row, and reserved version cells. -/
theorem test_minit_version7 :
    (cellByte (layoutCell 7 6 21), cellByte (layoutCell 7 5 22), cellByte (layoutCell 7 22 22), cellByte (layoutCell 7 5 36),
      cellByte (layoutCell 7 34 0)) = (0x06#8, 0x06#8, 0x07#8, 0x04#8, 0x04#8) := by decide +kernel

/-- R220, R221, R222 by hand on a 5 × 5 array of data modules with one codeword 0x90: the pair (4, 3) upward from (4, 4) starts
(4, 4), (4, 3), (3, 4), (3, 3), which receive 1, 0, 0, 1; its ninth module (0, 4) is a remainder bit. -/
theorem test_mplace :
    (let t := afterWord { inPhase .func 0 5 9 with plCount := 1#12, cw := [(0, 0x90#8)] } 0x00000021
     (t.phase, (cellAt t.mx 4 4).val, (cellAt t.mx 4 3).val, (cellAt t.mx 3 3).val, (cellAt t.mx 0 4).val,
       (cellAt t.mx 0 3).val)) =
      (.placed, .dark, .light, .dark, .light, .unset) := by decide +kernel

/-- Vectors section 4.4: a count one over, and a range one over; and PHASE = EMPTY. -/
theorem test_mplace_errors :
    codeOf { inPhase .func 1 21 208 with plCount := 27#12 } 0x00000021 = .mxCount ∧
    codeOf { inPhase .func 1 21 208 with plSrc := 4071#12, plCount := 26#12 } 0x00000021 = .mxRange ∧
    codeOf State.reset 0x00000021 = .mxPhase := by decide +kernel

/-- R232's example: MAPPLY 0 flips (19, 19) from DARK to LIGHT, and not (19, 20). -/
theorem test_mapply :
    (let t := afterWord { inPhase .placed 1 21 208 with mx := setVal State.reset.mx 19 19 .dark } 0x00000022
     (cellAt t.mx 19 19, cellAt t.mx 19 20, maskWord t)) =
      ({ val := .light, fn := false }, { val := .unset, fn := false }, 0x100#32) := by decide +kernel

/-- R264 to R268 by hand on a 6 × 6 array of light data modules: mask 1 makes rows 0, 2, 4 dark, so each row is a run of 6
(6 × 4 = 24), no column has a run, no 2 × 2 window is of one colour, and half the cells are dark. -/
theorem test_mscore :
    (let t := afterWord (inPhase .placed 1 6 36) 0x00000123
     (t.penN1, t.penN2, t.penN3, t.penN4, t.penTotal, t.penMask)) = (24#32, 0#32, 0#32, 0#32, 24#32, 1#3) := by
  decide +kernel

/-- Vectors section 5.2 at the size of one line: the two orientations of rule 3 in a light row of 21 cells count 80. -/
theorem test_finder_windows :
    lineFinders ((List.range 21).map fun c => c = 5 || c = 7 || c = 8 || c = 9 || c = 11) = 80 := by decide +kernel

/-- On the array of test_mscore: mask 0 makes a checkerboard, which scores 0, so MSELECT takes mask 0 and records 24 for mask 1. -/
theorem test_mselect :
    (let t := afterWord (inPhase .placed 1 6 36) 0x00000024
     (t.phase, t.mxMask, t.penTotal, t.penM[0], t.penM[1], (cellAt t.mx 0 0).val)) =
      (.masked, 0#3, 0#32, 0#32, 24#32, .dark) := by decide +kernel

/-- R244's example: MFORMAT M with mask 0 in version 1. -/
theorem test_mformat :
    (let t := afterWord (inPhase .masked 1 21 208) 0x00000125
     (t.mxFormat, levelWord t, (cellAt t.mx 8 0).val, (cellAt t.mx 8 1).val, t.mxVerinfo)) =
      (0x5412#15, 0x101#32, .dark, .light, 0#18) := by decide +kernel

/-- Vectors sections 4.5 and 4.6. -/
theorem test_format_and_version_words :
    formatWord 0#2 4#3 = 0x662F#15 ∧ formatWord 3#2 7#3 = 0x083B#15 ∧ versionWord 7 = 0x07C94#18 ∧
    versionWord 40 = 0x28C69#18 := by decide +kernel

/-! ### The bus -/

/-- Vectors section 8.2: bits 31:12 ignored; CTRL with SRST clear. -/
theorem test_register_writes :
    (busAccess (.write 0x00018#17 .four 0xFFFFF123#32) State.reset).rsSrc = 0x123#12 ∧
    ctrlWord (busAccess (.write 0x00004#17 .four 0xFFFFFFFD#32) State.reset) = 1#32 := by decide +kernel

/-- Vectors section 8.1: EXP[0..3] and LOG[0..3] as one read. -/
theorem test_wide_table_reads :
    (busAccess (.read 0x00200#17 .four) State.reset).busData = 0x08040201#32 ∧
    (busAccess (.read 0x00300#17 .four) State.reset).busData = 0x19010000#32 := by decide +kernel

/-- Vectors section 8.2: little-endian bytes of CW. -/
theorem test_codeword_ram :
    (busAccess (.read 0x01002#17 .two) (busAccess (.write 0x01000#17 .four 0x44332211#32) State.reset)).busData =
      0x4433#32 := by decide +kernel

/-- Vectors section 8.3: rejected accesses show in STATUS as 0x010. -/
theorem test_rejected :
    statusWord (busAccess (.read 0x00008#17 .one) State.reset) = 0x010#32 ∧
    statusWord (busAccess (.write 0x000FC#17 .four 1#32) State.reset) = 0x010#32 ∧
    statusWord (busAccess (.read 0x0FFFF#17 .one) State.reset) = 0x010#32 ∧
    statusWord (busAccess (.write 0x00008#17 .four 0x701#32) State.reset) = 0x000#32 := by decide +kernel

/-! ### Witnesses: what meets the hypotheses of each obligation -/

theorem witness_DecodeOfEncodeIsTheCommand : WellFormed (.mformat 3#8) = true ∧ WellFormed (.rsenc 255#8 255#8) = true := by
  decide

theorem witness_DecodedWordsEncodeBack : decode 0x00000722#32 = .ok (.mapply 7#8) := by decide

theorem witness_DecodingTakesTheFirstErrorThatApplies :
    zeroFrom ((0xFF000007#32).toNat % 256) = none ∧
    (zeroFrom ((0x00000425#32).toNat % 256) = some 10 ∧ (0x00000425#32).toNat / 2 ^ 10 ≠ 0) ∧
    (zeroFrom ((0x00000325#32).toNat % 256) = some 10 ∧ (0x00000325#32).toNat / 2 ^ 10 = 0) := by decide

theorem witness_StepRunsTheDecodedCommand :
    ((pending 0x00CA5302#32 [.engineTurn, .wait]).pend = true ∧
      decode (pending 0x00CA5302#32 [.engineTurn, .wait]).lword = .ok (.gfmul 0x53#8 0xCA#8) ∧
      (pending 0x00CA5302#32 [.engineTurn, .wait]).inputs = .engineTurn :: [.wait]) ∧
    (pending 0x00CA5302#32 []).inputs = [] ∧ (pending 0x00CA5302#32 [.wait]).inputs = .wait :: [] := by decide

theorem witness_StepCompletesUndecodableWords :
    (pending 0x00000007#32 [.engineTurn]).pend = true ∧ (pending 0x00000007#32 [.engineTurn]).inputs = .engineTurn :: [] ∧
    decode (pending 0x00000007#32 [.engineTurn]).lword = .error .illegal ∧
    decode (pending 0x00000822#32 [.engineTurn]).lword = .error .reserved := by decide

theorem witness_IssuedCommandRunsInItsTurn :
    ∃ s : State, s.pend = false ∧ decode 0x00000710#32 = .ok (.rsgen 7#8) ∧
      s.inputs = .bus (.write 0x00010#17 .four 0x00000710#32) :: .engineTurn :: [] :=
  ⟨{ State.reset with inputs := [.bus (.write 0x00010#17 .four 0x00000710#32), .engineTurn] }, rfl, by decide, rfl⟩

/-- A pending command with no reset to come, and one that a soft reset abandons. -/
theorem witness_PendingCommandsComplete :
    (pending 0x00000007#32 [.bus (.read 0x00008#17 .four)]).pend = true ∧
    ∃ x, x ∈ (pending 0x00000007#32 [.bus (.write 0x00004#17 .four 2#32)]).inputs.take 1 ∧ IsReset x :=
  ⟨rfl, _, by simp [pending], .inr ⟨2#32, by decide, rfl⟩⟩

theorem witness_GfdivUndoesMultiplication : (0x00#8 : Byte) = 0x00#8 ∧ (0x01#8 : Byte) ≠ 0x00#8 ∧ (0xFF#8 : Byte) ≠ 0x00#8 := by
  decide

theorem witness_GfinvIsTheInverse : (0x00#8 : Byte) = 0x00#8 ∧ (0x01#8 : Byte) ≠ 0x00#8 ∧ (0xFF#8 : Byte) ≠ 0x00#8 := by decide

theorem witness_GflogIsTheDiscreteLogarithm :
    (0x00#8 : Byte) = 0x00#8 ∧ (0x01#8 : Byte) ≠ 0x00#8 ∧ (0x8E#8 : Byte) ≠ 0x00#8 := by decide

theorem witness_GfUnitObeysTheFieldLaws : (0xFF#8 : Byte) ≠ 0x00#8 ∧ (0x01#8 : Byte) ≠ 0x00#8 := by decide

theorem witness_RsgenBuildsTheProductOfItsRoots :
    (1 ≤ (1#8 : Byte).toNat ∧ (1#8 : Byte).toNat ≤ 30) ∧ 1 ≤ (30#8 : Byte).toNat ∧ (30#8 : Byte).toNat ≤ 30 := by decide

/-- The largest block, its data and its correction codewords both ending at CW[4095]; and the smallest. -/
theorem witness_RsencMakesACodewordOfItsBlock :
    RsencAccepts 225#8 30#8 { State.reset with lrsSrc := 3871#12, lrsDst := 4066#12 } ∧ RsencAccepts 1#8 1#8 State.reset := by
  unfold RsencAccepts
  decide

/-- Source and destination overlap; an address just outside the destination. -/
theorem witness_RsencHasSnapshotSemantics :
    RsencAccepts 16#8 10#8 { State.reset with lrsDst := 1#12 } ∧ ¬((1#12 : CwOffset).toNat ≤ 0 ∧ 0 < 1 + (10#8 : Byte).toNat) ∧
    ¬((1#12 : CwOffset).toNat ≤ 11 ∧ 11 < 1 + (10#8 : Byte).toNat) := by
  unfold RsencAccepts
  decide

/-- A MINIT that completes: the smallest and the largest version (for MinitStartsASymbol and the statements after it). -/
theorem witness_MinitStartsASymbol :
    (1 ≤ (1#8 : Byte).toNat ∧ (1#8 : Byte).toNat ≤ 40) ∧ 1 ≤ (40#8 : Byte).toNat ∧ (40#8 : Byte).toNat ≤ 40 := by decide

/-- MINIT v completes for v = 1, 2, 7, 40. -/
theorem minit_completes :
    exec (.minit 1#8) State.reset = .next (complete .none (startSymbol 1 State.reset)) ∧
    exec (.minit 2#8) State.reset = .next (complete .none (startSymbol 2 State.reset)) ∧
    exec (.minit 7#8) State.reset = .next (complete .none (startSymbol 7 State.reset)) ∧
    exec (.minit 40#8) State.reset = .next (complete .none (startSymbol 40 State.reset)) := ⟨rfl, rfl, rfl, rfl⟩

/-- The far corner of each separator, in version 1. -/
theorem witness_MinitPlacesFindersAndSeparators :
    (∃ t, exec (.minit 1#8) State.reset = .next t) ∧
    (7 < sideOf 1 ∧ distance 7 7 3 3 ≤ 4) ∧ (13 < sideOf 1 ∧ distance 7 13 3 (sideOf 1 - 4) ≤ 4) ∧
    distance 13 7 (sideOf 1 - 4) 3 ≤ 4 := ⟨⟨_, minit_completes.1⟩, by decide, by decide, by decide⟩

/-- The two ends of the timing patterns, in version 1. -/
theorem witness_MinitPlacesTimingPatterns :
    (∃ t, exec (.minit 1#8) State.reset = .next t) ∧ (8 ≤ 8 ∧ 8 ≤ sideOf 1 - 9) ∧ 8 ≤ 12 ∧ 12 ≤ sideOf 1 - 9 :=
  ⟨⟨_, minit_completes.1⟩, by decide⟩

/-- A corner of the one alignment pattern of version 2; version 1 has none. -/
theorem witness_MinitPlacesAlignmentPatterns :
    (∃ t, exec (.minit 2#8) State.reset = .next t) ∧ AlignmentCentre 2 18 18 ∧ distance 16 20 18 18 ≤ 2 ∧
    ¬AlignmentCentre 1 6 6 :=
  ⟨⟨_, minit_completes.2.1⟩, ⟨1, 1, by decide, by decide, by decide, by decide, by decide⟩, by decide,
    fun ⟨a, _, h, _⟩ => by simp [alignCoords, alignPart0] at h⟩

theorem witness_MinitReservesFormatAndVersionCells :
    (∃ t, exec (.minit 7#8) State.reset = .next t) ∧ ((0, 8) ∈ formatCopy1 ++ formatCopy2 (sideOf 7)) ∧
    ((sideOf 7 - 1, 8) ∈ formatCopy1 ++ formatCopy2 (sideOf 7)) ∧ 7 ≤ (7#8 : Byte).toNat ∧ 17 < 18 :=
  ⟨⟨_, minit_completes.2.2.1⟩, by decide⟩

/-- A separator corner and the last data module, in version 1. -/
theorem witness_MinitLeavesTheOtherCellsAsDataModules :
    (∃ t, exec (.minit 1#8) State.reset = .next t) ∧ (∃ t, exec (.mapply 0#8) (inPhase .placed 1 21 208) = .next t) ∧
    FunctionModule 1 7 7 ∧ ¬FunctionModule 1 20 20 := by
  refine ⟨⟨_, minit_completes.1⟩, ⟨_, rfl⟩, .inl (by decide), ?_⟩
  rintro (h | h | h | h | h | ⟨r0, c0, ⟨a, b, h, -⟩, -⟩ | h | h | h | h)
  · omega
  · simp [sideOf] at h
  · simp [sideOf] at h
  · omega
  · omega
  · simp [alignCoords, alignPart0] at h
  · simp [formatCopy1] at h
  · simp [formatCopy2, sideOf] at h
  · omega
  · omega

theorem witness_ZigzagVisitsEachDataModuleInOrder : (1 ≤ 1 ∧ 1 ≤ 40) ∧ 1 ≤ 40 ∧ 40 ≤ 40 := by decide

/-- A stream of one codeword and one remainder bit: the first module, the last bit of the codeword, and the remainder. -/
theorem witness_MplacePlacesTheCodewordStream :
    ∃ s : State, s.phase = .func ∧ s.lplSrc.toNat + s.lplCount.toNat ≤ 4096 ∧ s.lplCount.toNat = s.mxDatamod.toNat / 8 ∧
      s.mxSize.toNat ≤ 177 ∧
      (0 < s.mxDatamod.toNat ∧ (zigzag s.mx s.mxSize.toNat)[0]? = some (4, 4)) ∧
      (7 < s.mxDatamod.toNat ∧ (zigzag s.mx s.mxSize.toNat)[7]? = some (1, 3)) ∧
      (8 < s.mxDatamod.toNat ∧ (zigzag s.mx s.mxSize.toNat)[8]? = some (0, 4) ∧ ¬8 < 8 * s.lplCount.toNat) ∧
      ∀ b, b < s.mxDatamod.toNat → (zigzag s.mx s.mxSize.toNat)[b]? ≠ some (0, 3) :=
  ⟨{ inPhase .func 0 5 9 with lplSrc := 4095#12, lplCount := 1#12 }, rfl, by decide, by decide, by decide,
    by decide +kernel, by decide +kernel, by decide +kernel, by decide +kernel⟩

/-- For the statements about PLACED: the smallest and the largest symbol. -/
theorem witness_MapplyFlipsTheSelectedDataModules :
    (inPhase .placed 40 177 29648).phase = .placed ∧ (inPhase .placed 40 177 29648).mxSize.toNat ≤ 177 ∧
    (inPhase .placed 1 21 208).mxSize.toNat ≤ 177 := by decide

theorem witness_MscoreFollowsThePenaltyRules :
    (inPhase .placed 40 177 29648).phase = .placed ∧ (inPhase .placed 40 177 29648).mxSize.toNat ≤ 177 := by decide

theorem witness_MselectTakesTheLowestMinimum :
    (inPhase .placed 1 21 208).phase = .placed ∧ (inPhase .placed 1 21 208).mxSize.toNat ≤ 177 := by decide

theorem witness_PenaltiesNeverOverflow :
    (inPhase .placed 40 177 29648).phase = .placed ∧ (inPhase .placed 40 177 29648).mxSize.toNat ≤ 177 := by decide

theorem witness_MformatWritesTheFormatWord :
    (inPhase .masked 1 21 208).phase = .masked ∧ 21 ≤ (inPhase .masked 1 21 208).mxSize.toNat ∧
    (inPhase .masked 1 21 208).mxSize.toNat ≤ 177 ∧ formatCopy1[14]? = some (8, 0) ∧
    (formatCopy2 (inPhase .masked 1 21 208).mxSize.toNat)[14]? = some (20, 8) := by decide

theorem witness_MformatWritesTheVersionWord :
    ((inPhase .masked 7 45 1568).phase = .masked ∧ 21 ≤ (inPhase .masked 7 45 1568).mxSize.toNat ∧
      (inPhase .masked 7 45 1568).mxSize.toNat ≤ 177 ∧ 7 ≤ (inPhase .masked 7 45 1568).mxVersion.toNat) ∧
    ((inPhase .masked 6 41 1383).phase = .masked ∧ (inPhase .masked 6 41 1383).mxVersion.toNat < 7 ∧
      (40, 40) ∉ formatCopy1 ∧ (40, 40) ∉ formatCopy2 41) := by decide

/-- Two states with one symbol that differ elsewhere. -/
theorem witness_SelectionDependsOnTheSymbolAlone :
    ∃ s s' : State, s.phase = .placed ∧ s'.phase = .placed ∧ s.mxSize = s'.mxSize ∧ s.gfR ≠ s'.gfR ∧
      ∀ r c, r < s.mxSize.toNat → c < s.mxSize.toNat → cellAt s.mx r c = cellAt s'.mx r c :=
  ⟨inPhase .placed 1 21 208, { inPhase .placed 1 21 208 with gfR := 1#8 }, rfl, rfl, rfl, by decide, fun _ _ _ _ => rfl⟩

/-- A GF command that completes, one that fails, and NOP (for GfCommandsAndNopFrame and FailedCommandsWriteNothing). -/
theorem witness_GfCommandsAndNopFrame :
    (∃ t, exec (.gfadd 1#8 2#8) State.reset = .next t) ∧ (∃ t, exec .nop State.reset = .next t) ∧
    ∃ t, exec (.gfinv 0#8) State.reset = .next t ∧ t.err = true :=
  ⟨⟨_, rfl⟩, ⟨_, rfl⟩, ⟨_, rfl, rfl⟩⟩

theorem witness_RsgenFrame :
    (∃ t, exec (.rsgen 30#8) State.reset = .next t) ∧ ∃ t, exec (.rsgen 31#8) State.reset = .next t ∧ t.err = true :=
  ⟨⟨_, rfl⟩, ⟨_, rfl, rfl⟩⟩

/-- A block of one correction codeword at dst = 0: an address outside it; and an RSENC that fails. -/
theorem witness_RsencFrame :
    (∃ t, exec (.rsenc 1#8 1#8) State.reset = .next t) ∧
    ¬(rsencDst State.reset ≤ 1 ∧ 1 < rsencDst State.reset + (1#8 : Byte).toNat) ∧
    ∃ t, exec (.rsenc 0#8 1#8) State.reset = .next t ∧ t.err = true :=
  ⟨⟨_, rfl⟩, by decide, ⟨_, rfl, rfl⟩⟩

theorem witness_MinitFrame :
    (∃ t, exec (.minit 40#8) State.reset = .next t) ∧ ∃ t, exec (.minit 41#8) State.reset = .next t ∧ t.err = true :=
  ⟨⟨_, minit_completes.2.2.2⟩, ⟨_, rfl, rfl⟩⟩

/-- A cell that is a function module, and one that is not, in the state MPLACE runs on; and an MAPPLY that fails. -/
theorem witness_MplaceAndMapplyFrame :
    (∃ t, exec .mplace { startSymbol 1 State.reset with lplCount := 26#12 } = .next t) ∧
    (cellAt (startSymbol 1 State.reset).mx 0 0).fn = true ∧ (∃ t, exec (.mapply 7#8) (inPhase .placed 1 21 208) = .next t) ∧
    ∃ t, exec (.mapply 7#8) State.reset = .next t ∧ t.err = true := by
  refine ⟨?_, by decide +kernel, ⟨_, rfl⟩, ⟨_, rfl, rfl⟩⟩
  show ∃ t, execMplace _ = .next t
  unfold execMplace
  split_ifs <;> exact ⟨_, rfl⟩

theorem witness_MformatFrame :
    (∃ t, exec (.mformat 3#8) (inPhase .masked 1 21 208) = .next t) ∧
    ((20, 20) ∉ formatCopy1 ∧ (20, 20) ∉ formatCopy2 21 ∧
      ∀ i, i < 18 → (20, 20) ≠ (i / 3, 21 - 11 + i % 3) ∧ (20, 20) ≠ (21 - 11 + i % 3, i / 3)) ∧
    ∃ t, exec (.mformat 3#8) State.reset = .next t ∧ t.err = true :=
  ⟨⟨_, rfl⟩, by decide, ⟨_, rfl, rfl⟩⟩

theorem witness_MscoreAndMselectFrame :
    (∃ t, exec (.mscore 7#8) (inPhase .placed 1 21 208) = .next t) ∧ (∃ t, exec .mselect (inPhase .placed 1 21 208) = .next t) ∧
    ∃ t, exec .mselect State.reset = .next t ∧ t.err = true :=
  ⟨⟨_, rfl⟩, ⟨_, rfl⟩, ⟨_, rfl, rfl⟩⟩

theorem witness_FailedCommandsWriteNothing : ∃ t, exec (.minit 0#8) State.reset = .next t ∧ t.err = true := ⟨_, rfl, rfl⟩

/-- A boundary value of each check of the table. -/
theorem witness_ChecksFollowThePriorityTable :
    (30 < (31#8 : Byte).toNat ∧ (0#8 : Byte).toNat = 0) ∧
    (1 ≤ (30#8 : Byte).toNat ∧ (30#8 : Byte).toNat ≤ 30 ∧ 255 < (226#8 : Byte).toNat + (30#8 : Byte).toNat) ∧
    ((225#8 : Byte).toNat + (30#8 : Byte).toNat ≤ 255 ∧
      4096 < ({ State.reset with lrsSrc := 3872#12 } : State).lrsSrc.toNat + (225#8 : Byte).toNat ∧
      4096 < ({ State.reset with lrsDst := 4067#12 } : State).lrsDst.toNat + (30#8 : Byte).toNat) ∧
    40 < (41#8 : Byte).toNat ∧ State.reset.phase ≠ .func ∧
    (4096 < (4071#12 : CwOffset).toNat + (26#12 : CwOffset).toNat) ∧
    ((4070#12 : CwOffset).toNat + (26#12 : CwOffset).toNat ≤ 4096 ∧
      (26#12 : CwOffset).toNat ≠ (inPhase .func 2 25 359).mxDatamod.toNat / 8) ∧
    (inPhase .masked 1 21 208).phase ≠ .placed ∧ (inPhase .placed 1 21 208).phase ≠ .masked := by decide

theorem witness_PhaseMovesOnlyAlongTheConstruction :
    (∃ t, exec (.minit 1#8) State.reset = .next t) ∧ (∃ t, step (pending 0x00000120#32 []) = .next t) ∧
    ∃ t, step { inPhase .final 1 21 208 with inputs := [.hardReset] } = .next t ∧ t.phase = .empty :=
  ⟨⟨_, minit_completes.1⟩, ⟨_, rfl⟩, ⟨_, rfl, rfl⟩⟩

theorem witness_CommandsUseTheLatchedOperands : ∃ t, exec (.rsenc 1#8 1#8) State.reset = .next t := ⟨_, rfl⟩

theorem witness_InterruptFollowsCompletion :
    (∃ t, exec .nop { State.reset with irqen := true } = .next t) ∧ State.reset.pend = false ∧
    (2#32 : Word).getLsbD 1 = true ∧ (1#32 : Word).getLsbD 1 = false := ⟨⟨_, rfl⟩, by decide⟩

/-- Each way of being rejected at the edge of its range, and accesses next to them that are not. -/
theorem witness_RejectedAccessesOnlySetAccerr :
    RejectedEither 0x01002 4 false ∧ RejectedEither 0x000FE 2 false ∧ RejectedEither 0x00080 4 false ∧
    RejectedEither 0x00400 1 false ∧ RejectedEither 0x0FFFF 1 false ∧ RejectedEither 0x01FFF 1 true ∧
    ¬RejectedEither 0x0007C 4 true ∧ ¬RejectedEither 0x003FF 1 true ∧ ¬RejectedEither 0x1FFFC 4 false ∧
    RejectedWrite 0x0002C 4 false ∧ RejectedWrite 0x003FF 1 false ∧ RejectedWrite 0x10000 1 false ∧
    ¬RejectedWrite 0x00028 4 true ∧ ¬RejectedWrite 0x01FFF 1 false := by
  simp [RejectedWrite, RejectedEither, writableOffsets]

theorem witness_CodewordRamWritesReadBack :
    State.reset.pend = false ∧ 0x01000 ≤ (0x01FFC#17 : BusAddr).toNat ∧ (0x01FFC#17 : BusAddr).toNat < 0x02000 ∧
    (0x01FFC#17 : BusAddr).toNat % sizeBytes .four = 0 ∧ 3 < sizeBytes .four ∧
    ¬(0xFFC ≤ 0xFFB ∧ 0xFFB < 0xFFC + sizeBytes .four) := by decide

theorem witness_MatrixWindowShowsTheSymbol :
    State.reset.pend = false ∧ 255 < 256 ∧ 252 < 256 ∧ 252 % sizeBytes .four = 0 ∧ 3 < sizeBytes .four ∧
    0x10000 ≤ (0x10000#17 : BusAddr).toNat := by decide

theorem witness_TableWindowsShowTheTables :
    (255 < 256 ∧ 255 % sizeBytes .one = 0 ∧ 0 < sizeBytes .one ∧ 255 + 0 ≠ 0) ∧
    (252 < 256 ∧ 252 % sizeBytes .four = 0 ∧ 3 < sizeBytes .four) ∧ 0 % sizeBytes .two = 0 ∧ 0 + 0 = 0 ∧
    State.reset.pend = false ∧ (pending 0#32 []).pend = true ∧
    (0x00100 ≤ (0x001FF#17 : BusAddr).toNat ∧ (0x001FF#17 : BusAddr).toNat < 0x00200) ∧
    (0x00100 ≤ (0x00100#17 : BusAddr).toNat ∧ (0x003FF#17 : BusAddr).toNat < 0x00400) := by decide

theorem witness_CommandWritesAreAcceptedOrDropped : State.reset.pend = false ∧ (pending 0#32 []).pend = true := by decide

theorem witness_ControlRegistersReadAndWriteAsLaidOut :
    0 < 32 ∧ 31 < 32 ∧ (0xFFFFFFFD#32 : Word).getLsbD 1 = false ∧ 0x00028#17 ∈ [0x00018#17, 0x0001C#17, 0x00024#17, 0x00028#17] := by decide

theorem witness_ResetLeavesTheTableOfValues : (pending 0#32 [.hardReset]).inputs = .hardReset :: [] := by decide

theorem witness_SoftResetRestoresEveryRegister : (3#32 : Word).getLsbD 1 = true ∧ (2#32 : Word).getLsbD 1 = true := by decide

/-! ### A state in the middle of a construction meets every invariant -/

/-- The state just after MINIT 1. -/
def afterMinit1 : State := complete .none (startSymbol 1 State.reset)

/-- R226's table, version 1. -/
theorem countData_version1 : countData (layout 1) 21 = 208 := by decide +kernel

theorem witness_StepKeepsTheRegisterInvariants :
    (∃ t, step afterMinit1 = .next t) ∧ ControlInv afterMinit1 ∧ GeneratorInv afterMinit1 ∧ PenaltyInv afterMinit1 ∧
    MemoryInv afterMinit1 := by
  refine ⟨⟨_, rfl⟩, ?_, ?_, ?_, ?_⟩
  · exact ⟨rfl, by decide, by decide⟩
  · exact ⟨by decide, by decide⟩
  · rfl
  · rfl

theorem witness_StepKeepsTheSymbolOfItsVersion :
    (∃ t, step afterMinit1 = .next t) ∧ SymbolInv afterMinit1 ∧ ResultInv afterMinit1 := by
  refine ⟨⟨_, rfl⟩, ⟨fun h => (by cases h), fun _ => ⟨by decide, by decide, by decide, ?_, fun _ _ => rfl⟩⟩, ?_⟩
  · show (BitVec.ofNat 15 (countData (layout 1) 21)).toNat = countData (layout 1) 21
    rw [countData_version1]
    rfl
  · exact ⟨by decide, by decide, by decide, fun _ => ⟨rfl, rfl, rfl⟩, fun h => by cases h⟩

theorem witness_StepKeepsTheSymbolFilled :
    (∃ t, step afterMinit1 = .next t) ∧ SymbolInv afterMinit1 ∧ FilledInv afterMinit1 := by
  refine ⟨⟨_, rfl⟩, witness_StepKeepsTheSymbolOfItsVersion.2.1, fun _ => rfl, fun h => ?_, fun h => ?_, fun h => by cases h⟩
  · rcases h with h | h | h <;> cases h
  · rcases h with h | h <;> cases h

end Sys2Proof.Tests
end

section
/-! SUPPORT. The address map by ranges, exactly which accesses the bus rejects, and what the others read; and the statements about
rejected accesses (O49) and the MATRIX, EXP, LOG and GEN windows (O51, O52). -/

namespace Sys2Proof.Machine

variable {s t : State}

/-! ### The address map -/

/-- The byte addresses of a region (20_memory.md R83). -/
def InRegion (r : Region) (a : Nat) : Prop :=
  match r with
  | .control => a < 0x00100
  | .gen => 0x00100 ≤ a ∧ a < 0x00200
  | .exp => 0x00200 ≤ a ∧ a < 0x00300
  | .log => 0x00300 ≤ a ∧ a < 0x00400
  | .cw => 0x01000 ≤ a ∧ a < 0x02000
  | .matrix => 0x10000 ≤ a
  | .unmapped => (0x00400 ≤ a ∧ a < 0x01000) ∨ (0x02000 ≤ a ∧ a < 0x10000)

theorem inRegion_regionOf (a : Nat) : InRegion (regionOf a) a := by
  unfold regionOf
  split_ifs <;> simp only [InRegion] <;> omega

theorem regionOf_eq_of_inRegion {r : Region} {a : Nat} (h : InRegion r a) : regionOf a = r := by
  cases r <;> grind [regionOf, InRegion]

theorem aligned_iff (a : Nat) (n : Size) : aligned a n = true ↔ a % sizeBytes n = 0 := by simp [aligned]

/-! ### Registers a host may write -/

/-- The registers of 10_state.md R34 that a write changes. -/
def writableRegs : List Reg := [.ctrl, .status, .cmd, .rsSrc, .rsDst, .plSrc, .plCount]

theorem writeReg_eq_none_iff (r : Reg) (w : Word) : writeReg r w s = none ↔ r ∉ writableRegs := by
  cases r <;> simp [writeReg, writableRegs]

theorem regAt_eq_none_iff (a : Nat) : regAt a = none ↔ 0x80 ≤ a := by
  simp only [regAt, List.getElem?_eq_none_iff, allRegs, List.length_cons, List.length_nil]
  omega

theorem mem_writableRegs_of_regAt :
    ∀ k < 32, ∀ r ∈ regAt (4 * k), (r ∈ writableRegs ↔ 4 * k ∈ writableOffsets) := by decide

/-- A word write to the control page is rejected at a reserved offset and at a read-only register (R53). -/
theorem regAt_bind_writeReg_eq_none_iff {a : Nat} (h : a % 4 = 0) (w : Word) :
    ((regAt a).bind fun r => writeReg r w s) = none ↔ 0x80 ≤ a ∨ a ∉ writableOffsets := by
  obtain ⟨k, rfl⟩ := Nat.dvd_of_mod_eq_zero h
  by_cases hk : 0x80 ≤ 4 * k
  · simp [(regAt_eq_none_iff _).mpr hk, hk]
  · obtain ⟨r, hr⟩ := Option.ne_none_iff_exists'.mp (mt (regAt_eq_none_iff _).mp hk)
    simp [hr, hk, writeReg_eq_none_iff, mem_writableRegs_of_regAt k (by omega) r hr]

theorem writeReg_accerr {r : Reg} {w : Word} (h : writeReg r w s = some t) (ht : t.accerr = true) : s.accerr = true := by
  rcases writeReg_cases h with rfl | ⟨_, rfl⟩ | rfl | ⟨-, rfl⟩ | ⟨-, rfl⟩ | ⟨_, rfl⟩ | ⟨_, rfl⟩ | ⟨_, rfl⟩ | ⟨_, rfl⟩
  · cases ht
  · exact ht
  · exact (Bool.and_eq_true_iff.mp ht).1
  all_goals exact ht

/-! ### Which accesses are rejected -/

theorem size_eq_four_iff (n : Size) : n = .four ↔ sizeBytes n = 4 := by cases n <;> decide

theorem rejectedEither_control {a : Nat} (ha : InRegion .control a) (n : Size) (busy : Bool) :
    RejectedEither a (sizeBytes n) busy ↔ a % sizeBytes n ≠ 0 ∨ n ≠ .four ∨ 0x80 ≤ a := by
  simp only [InRegion] at ha
  rw [RejectedEither, Ne, Ne, Ne, size_eq_four_iff]
  omega

theorem rejectedEither_unmapped {a : Nat} (ha : InRegion .unmapped a) (n : Nat) (busy : Bool) :
    RejectedEither a n busy := by
  simp only [InRegion] at ha
  unfold RejectedEither
  omega

theorem rejectedEither_window {r : Region} {a : Nat} (ha : InRegion r a) (hc : r ≠ .control) (hu : r ≠ .unmapped)
    (n : Size) (busy : Bool) :
    RejectedEither a (sizeBytes n) busy ↔ a % sizeBytes n ≠ 0 ∨ (busy = true ∧ blockedWhileBusy r = true) := by
  unfold RejectedEither
  cases r <;> grind [InRegion, blockedWhileBusy]

theorem busRead_eq_none_iff (a : Nat) (n : Size) : busRead a n s = none ↔ RejectedEither a (sizeBytes n) s.pend := by
  have hr := inRegion_regionOf a
  cases h : regionOf a with rw [h] at hr
  | control =>
    rw [rejectedEither_control hr, ← regAt_eq_none_iff]
    grind [busRead, aligned_iff, Option.map_eq_none_iff]
  | unmapped => simp [busRead, h, rejectedEither_unmapped hr]
  | _ =>
    rw [rejectedEither_window hr nofun nofun]
    grind [busRead, aligned_iff]

theorem busWrite_control_eq_none_iff {a : Nat} (h : regionOf a = .control) (n : Size) (w : Word) :
    busWrite a n w s = none ↔ a % sizeBytes n ≠ 0 ∨ n ≠ .four ∨ 0x80 ≤ a ∨ a ∉ writableOffsets := by
  by_cases hal : a % sizeBytes n = 0
  · cases n with
    | four => simp [busWrite, aligned_iff, hal, h, ← regAt_bind_writeReg_eq_none_iff (s := s) hal w]
    | _ => simp [busWrite, h]
  · simp [busWrite, aligned_iff, hal]

theorem busWrite_eq_none_iff (a : Nat) (n : Size) (w : Word) :
    busWrite a n w s = none ↔ RejectedWrite a (sizeBytes n) s.pend := by
  have hr := inRegion_regionOf a
  unfold RejectedWrite
  cases h : regionOf a with rw [h] at hr
  | control =>
    rw [busWrite_control_eq_none_iff h, rejectedEither_control hr]
    grind [InRegion]
  | cw =>
    rw [rejectedEither_window hr nofun nofun]
    grind [busWrite, aligned_iff, InRegion]
  | unmapped => simp [busWrite, h, rejectedEither_unmapped hr]
  | matrix => exact iff_of_true (by simp [busWrite, h]) (.inr (.inr (.inr hr)))
  | _ => exact iff_of_true (by simp [busWrite, h]) (.inr (.inr (.inl (by simp only [InRegion] at hr; omega))))

/-- A write that is not rejected may clear ACCERR (R37, R341) but never sets it. -/
theorem busWrite_accerr {a : Nat} {n : Size} {w : Word} (h : busWrite a n w s = some t) (ht : t.accerr = true) :
    s.accerr = true := by
  rcases busWrite_cases h with ⟨r, hr⟩ | ⟨-, -, -, rfl⟩
  · exact writeReg_accerr hr ht
  · exact ht

/-! ### What an access does -/

theorem busAccess_read_of_rejected {a : BusAddr} {n : Size} (h : RejectedEither a.toNat (sizeBytes n) s.pend) :
    busAccess (.read a n) s = { s with busData := 0#32, accerr := true } := by
  simp only [busAccess, (busRead_eq_none_iff a.toNat n).mpr h, setAccerr]

theorem busAccess_write_of_rejected {a : BusAddr} {n : Size} (w : Word) (h : RejectedWrite a.toNat (sizeBytes n) s.pend) :
    busAccess (.write a n w) s = { s with accerr := true } := by
  simp only [busAccess, (busWrite_eq_none_iff a.toNat n w).mpr h, setAccerr]

theorem busAccess_read_of_not_rejected {a : BusAddr} {n : Size} (h : ¬RejectedEither a.toNat (sizeBytes n) s.pend) :
    ∃ v, busRead a.toNat n s = some v ∧ busAccess (.read a n) s = { s with busData := v } := by
  obtain ⟨v, hv⟩ := Option.ne_none_iff_exists'.mp (mt (busRead_eq_none_iff a.toNat n).mp h)
  exact ⟨v, hv, by simp only [busAccess, hv]⟩

theorem busAccess_write_of_not_rejected {a : BusAddr} {n : Size} {w : Word}
    (h : ¬RejectedWrite a.toNat (sizeBytes n) s.pend) : busWrite a.toNat n w s = some (busAccess (.write a n w) s) := by
  obtain ⟨t, ht⟩ := Option.ne_none_iff_exists'.mp (mt (busWrite_eq_none_iff a.toNat n w).mp h)
  simp only [busAccess, ht]

/-- Settles O49: the bus rejects exactly the accesses of the listed ranges, a read only moves data to the bus, and no write that
is carried out raises ACCERR. -/
theorem rejectedAccessesOnlySetAccerr : Obligations.RejectedAccessesOnlySetAccerr := by
  unfold Obligations.RejectedAccessesOnlySetAccerr
  intro a n w s
  refine ⟨busAccess_read_of_rejected, busAccess_write_of_rejected w, fun h => ?_, fun h => ?_⟩
  · obtain ⟨v, -, hv⟩ := busAccess_read_of_not_rejected h
    rw [hv]
  · exact busWrite_accerr (busAccess_write_of_not_rejected h)

/-! ### Bytes of a read -/

/-- Byte i of a value read with n bytes: zero-extended above them (R81). -/
def byteOfRead (n : Size) (f : Nat → Byte) (i : Nat) : Byte := if i < sizeBytes n then f i else 0#8

theorem joinBytes_eq_word4 (n : Size) (f : Nat → Byte) :
    joinBytes n f = word4 (byteOfRead n f 3) (byteOfRead n f 2) (byteOfRead n f 1) (byteOfRead n f 0) := by
  cases n <;> simp only [byteOfRead, sizeBytes, Nat.reduceLT, if_true, if_false] <;> rfl

theorem sizeBytes_le_four (n : Size) : sizeBytes n ≤ 4 := by cases n <;> decide

theorem getLsbD_joinBytes (n : Size) (f : Nat → Byte) (q : Nat) {r : Nat} (hr : r < 8) :
    (joinBytes n f).getLsbD (8 * q + r) = (byteOfRead n f q).getLsbD r := by
  rw [joinBytes_eq_word4, getLsbD_word4]
  by_cases hq : q < 4
  · interval_cases q <;> grind
  · have := sizeBytes_le_four n
    have hb : byteOfRead n f q = 0#8 := if_neg (by omega)
    rw [if_neg (by omega), if_neg (by omega), if_neg (by omega), BitVec.getLsbD_of_ge _ _ (by omega), hb, BitVec.getLsbD_zero]

theorem extractLsb'_joinBytes {n : Size} {i : Nat} (h : i < sizeBytes n) (f : Nat → Byte) :
    (joinBytes n f).extractLsb' (8 * i) 8 = f i := by
  refine BitVec.eq_of_getLsbD_eq fun j hj => ?_
  rw [BitVec.getLsbD_extractLsb', getLsbD_joinBytes n f i hj, byteOfRead, if_pos h]
  simp [hj]

theorem joinBytes_toNat_lt (n : Size) (f : Nat → Byte) : (joinBytes n f).toNat < 2 ^ (8 * sizeBytes n) := by
  refine Nat.lt_pow_two_of_testBit _ fun j hj => ?_
  rw [BitVec.testBit_toNat, ← Nat.div_add_mod j 8, getLsbD_joinBytes n f _ (Nat.mod_lt _ (by decide)), byteOfRead,
    if_neg (by omega)]
  simp

theorem busRead_window {a : Nat} {n : Size} {v : Word} (ha : 0x100 ≤ a) (h : busRead a n s = some v) :
    v = joinBytes n fun i => windowByte s (a + i) := by
  have hr := inRegion_regionOf a
  unfold busRead at h
  split at h
  · cases h
  · split at h
    · next hc => rw [hc, InRegion] at hr; omega
    · cases h
    · split at h
      · cases h
      · exact (Option.some.inj h).symm

/-- A read outside the control page, rejected or not, returns no more than its bytes (R80). -/
theorem busData_read_lt {a : BusAddr} (ha : 0x100 ≤ a.toNat) (n : Size) :
    (busAccess (.read a n) s).busData.toNat < 2 ^ (8 * sizeBytes n) := by
  by_cases h : RejectedEither a.toNat (sizeBytes n) s.pend
  · simp [busAccess_read_of_rejected h]
  · obtain ⟨v, hv, hs⟩ := busAccess_read_of_not_rejected h
    simpa only [hs, busRead_window ha hv] using joinBytes_toNat_lt n _

/-- The n bytes of an aligned access stay in the block of m bytes its first byte lies in. -/
theorem add_lt_of_aligned {n : Size} {j i m : Nat} (hj : j < m) (hal : j % sizeBytes n = 0) (hi : i < sizeBytes n)
    (hm : m % 4 = 0) : j + i < m := by
  cases n <;> simp only [sizeBytes] at hal hi <;> omega

theorem add_mod_sizeBytes {b j : Nat} {n : Size} (hb : b % 4 = 0) (hj : j % sizeBytes n = 0) : (b + j) % sizeBytes n = 0 := by
  cases n <;> simp only [sizeBytes] at hj ⊢ <;> omega

theorem le_of_inRegion {r : Region} {a : Nat} (ha : InRegion r a) (hc : r ≠ .control) : 0x100 ≤ a := by
  cases r <;> simp only [InRegion, ne_eq, not_true_eq_false] at ha hc <;> omega

/-- Byte i of an aligned read at b + j in a window that is not blocked is the byte at its address (R81, R88). -/
theorem busData_read_window {r : Region} {b j i : Nat} {n : Size} (hr : InRegion r (b + j)) (hc : r ≠ .control)
    (hu : r ≠ .unmapped) (hlt : b + j < 0x20000) (hfree : s.pend = true → blockedWhileBusy r = false) (hb : b % 4 = 0)
    (hal : j % sizeBytes n = 0) (hi : i < sizeBytes n) :
    (busAccess (.read (BitVec.ofNat 17 (b + j)) n) s).busData.extractLsb' (8 * i) 8 = windowByte s (b + (j + i)) := by
  have ha : (BitVec.ofNat 17 (b + j)).toNat = b + j := Nat.mod_eq_of_lt hlt
  have hok : ¬RejectedEither (b + j) (sizeBytes n) s.pend := by
    rw [rejectedEither_window hr hc hu]
    rintro (hmis | ⟨hp, hblk⟩)
    · exact hmis (add_mod_sizeBytes hb hal)
    · simp [hfree hp] at hblk
  obtain ⟨v, hv, hs⟩ := busAccess_read_of_not_rejected (by rwa [ha])
  rw [ha] at hv
  rw [hs, busRead_window (le_of_inRegion hr hc) hv, extractLsb'_joinBytes hi, Nat.add_assoc]

/-! ### The MATRIX window -/

theorem windowByte_matrix {r c : Nat} (hc : c < 256) : windowByte s (0x10000 + 256 * r + c) = matrixByte s r c := by
  have hr : regionOf (0x10000 + 256 * r + c) = .matrix := regionOf_eq_of_inRegion (by simp only [InRegion]; omega)
  have hrow : (0x10000 + 256 * r + c - 0x10000) / 256 = r := by omega
  have hcol : (0x10000 + 256 * r + c - 0x10000) % 256 = c := by omega
  simp only [windowByte, hr, hrow, hcol]

theorem cellByte_eq (x : Cell) :
    cellByte x = BitVec.ofNat 8 ((if x.val = .dark then 1 else 0) + (if x.val ≠ .unset then 2 else 0) +
      (if x.fn = true then 4 else 0)) := by
  obtain ⟨val, fn⟩ := x
  cases val <;> cases fn <;> rfl

/-- Settles O51: an aligned read inside a row stays in the row, and each byte it returns is the byte of its cell. -/
theorem matrixWindowShowsTheSymbol : Obligations.MatrixWindowShowsTheSymbol := by
  unfold Obligations.MatrixWindowShowsTheSymbol
  refine ⟨fun r c i n s hp hr hc hal hi => ?_, fun a n w s ha => ?_⟩
  · have hci : c + i < 256 := add_lt_of_aligned hc hal hi rfl
    rw [busData_read_window (r := .matrix) (by simp only [InRegion]; omega) nofun nofun (by omega) (by simp [hp]) (by omega)
      hal hi, windowByte_matrix hci, matrixByte, cellByte_eq, symbolSide]
  · exact busAccess_write_of_rejected w (.inr (.inr (.inr ha)))

/-! ### The EXP, LOG and GEN windows -/

/-- Multiplication by α is one turn of R151's loop. -/
theorem fieldProduct_alpha : ∀ x : Byte, fieldProduct x Config.pAlpha = expNext x := by decide +kernel

theorem expAt_eq_alphaPow : ∀ {i : Nat}, i < 255 → expAt i = alphaPow i
  | 0, _ => exp_zero
  | i + 1, h => by rw [exp_succ i (by omega), expAt_eq_alphaPow (by omega), alphaPow, fieldProduct_alpha]

theorem expAt_eq_alphaPow_mod {i : Nat} (h : i < 256) : expAt i = alphaPow (i % 255) := by
  rcases Nat.lt_or_eq_of_le (Nat.le_of_lt_succ h) with h | rfl
  · rw [Nat.mod_eq_of_lt h, expAt_eq_alphaPow h]
  · exact exp_255

theorem expAt_injOn : Set.InjOn expAt (Finset.range 255) := by
  intro i hi j hj h
  have hi : i < 255 := by simpa using hi
  have hj : j < 255 := by simpa using hj
  have hij : BitVec.ofNat 8 i = BitVec.ofNat 8 j := by rw [← log_exp i hi, ← log_exp j hj, h]
  have := congrArg BitVec.toNat hij
  simp only [BitVec.toNat_ofNat] at this
  omega

theorem expAt_ne_zero {i : Nat} (h : i < 255) : expAt i ≠ 0x00#8 := by
  intro hz
  have hlog := log_exp i h
  rw [hz, log_zero] at hlog
  have h0 : i = 0 := by bv_omega
  rw [h0, exp_zero] at hz
  cases hz

/-- α generates every element but 0: 255 exponents give distinct elements other than 0, and there are no more of these. -/
theorem exists_expAt_eq {a : Byte} (ha : a ≠ 0x00#8) : ∃ i < 255, expAt i = a := by
  have himage : (Finset.range 255).image (fun i => (expAt i).toNat) = Finset.Ico 1 256 := by
    refine Finset.eq_of_subset_of_card_le (fun b hb => ?_) ?_
    · obtain ⟨i, hi, rfl⟩ := Finset.mem_image.mp hb
      have := expAt_ne_zero (Finset.mem_range.mp hi)
      rw [Finset.mem_Ico]
      bv_omega
    · rw [Finset.card_image_of_injOn fun i hi j hj h => expAt_injOn hi hj (BitVec.eq_of_toNat_eq h)]
      simp
  have hmem : a.toNat ∈ Finset.Ico 1 256 := by
    rw [Finset.mem_Ico]
    bv_omega
  rw [← himage, Finset.mem_image] at hmem
  obtain ⟨i, hi, h⟩ := hmem
  exact ⟨i, Finset.mem_range.mp hi, BitVec.eq_of_toNat_eq h⟩

theorem windowByte_exp {j : Nat} (h : j < 256) : windowByte s (0x00200 + j) = alphaPow (j % 255) := by
  have hr : regionOf (0x00200 + j) = .exp := regionOf_eq_of_inRegion (by simp only [InRegion]; omega)
  simp only [windowByte, hr, Nat.add_sub_cancel_left, expAt_eq_alphaPow_mod h]

theorem windowByte_log {j : Nat} (h : j < 256) : windowByte s (0x00300 + j) = logAt (BitVec.ofNat 8 j) := by
  have hr : regionOf (0x00300 + j) = .log := regionOf_eq_of_inRegion (by simp only [InRegion]; omega)
  simp only [windowByte, hr, Nat.add_sub_cancel_left, logAt, BitVec.toNat_ofNat, Nat.mod_eq_of_lt h]

theorem windowByte_gen {j : Nat} (h : j < 256) : windowByte s (0x00100 + j) = genAt s.gen j := by
  have hr : regionOf (0x00100 + j) = .gen := regionOf_eq_of_inRegion (by simp only [InRegion]; omega)
  simp only [windowByte, hr, Nat.add_sub_cancel_left]

/-- Settles O52: the windows show the tables byte by byte; EXP runs through the powers of α, and LOG inverts it. -/
theorem tableWindowsShowTheTables : Obligations.TableWindowsShowTheTables := by
  unfold Obligations.TableWindowsShowTheTables
  refine ⟨fun j i n s hj hal hi => ?_, fun a n s ha _ => busData_read_lt ha n, fun a n s ha ha' hp => ?_,
    fun a n w s ha ha' => ?_⟩
  · have hji : j + i < 256 := add_lt_of_aligned hj hal hi rfl
    have hlog := busData_read_window (s := s) (r := .log) (b := 0x00300) (j := j) (by simp only [InRegion]; omega) nofun nofun
      (by omega) (fun _ => rfl) rfl hal hi
    rw [windowByte_log hji] at hlog
    refine ⟨?_, fun h0 => ?_, fun h0 => ?_, fun hp => ?_⟩
    · rw [busData_read_window (r := .exp) (by simp only [InRegion]; omega) nofun nofun (by omega) (fun _ => rfl) rfl hal hi,
        windowByte_exp hji]
    · rw [hlog, h0]
      exact log_zero
    · obtain ⟨l, hl, hexp⟩ := exists_expAt_eq (a := BitVec.ofNat 8 (j + i)) (by bv_omega)
      exact ⟨l, by omega, by rw [← expAt_eq_alphaPow hl, hexp], by rw [hlog, ← hexp, log_exp l hl]⟩
    · rw [busData_read_window (r := .gen) (by simp only [InRegion]; omega) nofun nofun (by omega) (by simp [hp]) rfl hal hi,
        windowByte_gen hji, genAt]
  · exact busAccess_read_of_rejected (.inr (.inr (.inr (.inr (.inr ⟨hp, .inl ⟨ha, ha'⟩⟩)))))
  · exact busAccess_write_of_rejected w (.inr (.inr (.inl ⟨ha, ha'⟩)))

end Sys2Proof.Machine
end

section
/-! SUPPORT. The GF unit computes in a commutative ring: bytes are polynomials over GF(2) modulo P_FIELD_POLY (40_gf.md R150), and
both the reduced carry-less product and the product by log tables (R152) are the ring's product. -/

namespace Sys2Proof.Machine

open Polynomial

/-! ### Numbers as polynomials over GF(2) -/

/-- The polynomial over GF(2) whose coefficient of X^i is bit i of the number (R150); no bit from a on is set in a. -/
noncomputable def bitPoly (a : Nat) : (ZMod 2)[X] :=
  ∑ i ∈ Finset.range a, if a.testBit i then X ^ i else 0

theorem lt_of_testBit_of_lt_two_pow {a k i : Nat} (ha : a < 2 ^ k) (h : a.testBit i = true) : i < k :=
  (Nat.pow_lt_pow_iff_right (by decide)).mp ((Nat.ge_two_pow_of_testBit h).trans_lt ha)

theorem coeff_sum_testBit {a k : Nat} (h : a < 2 ^ k) (i : Nat) :
    (∑ j ∈ Finset.range k, if a.testBit j then (X : (ZMod 2)[X]) ^ j else 0).coeff i = if a.testBit i then 1 else 0 := by
  have hterm : ∀ j, (if a.testBit j then (X : (ZMod 2)[X]) ^ j else 0).coeff i =
      if i = j then (if a.testBit i then 1 else 0) else 0 := by
    intro j
    by_cases hij : i = j
    · subst hij
      split <;> simp
    · split <;> simp [coeff_X_pow, hij]
  simp only [finsetSum_coeff, hterm, Finset.sum_ite_eq, Finset.mem_range]
  split
  · rfl
  · next hi => rw [if_neg fun hbit => hi (lt_of_testBit_of_lt_two_pow h hbit)]

theorem coeff_bitPoly (a i : Nat) : (bitPoly a).coeff i = if a.testBit i then 1 else 0 :=
  coeff_sum_testBit Nat.lt_two_pow_self i

theorem bitPoly_eq_sum_range {a k : Nat} (h : a < 2 ^ k) :
    bitPoly a = ∑ i ∈ Finset.range k, if a.testBit i then X ^ i else 0 := by
  ext i
  rw [coeff_bitPoly, coeff_sum_testBit h]

theorem bitPoly_injective : Function.Injective bitPoly := by
  intro a b h
  refine Nat.eq_of_testBit_eq fun i => ?_
  have hi := congrArg (fun p => p.coeff i) h
  simp only [coeff_bitPoly] at hi
  revert hi
  cases a.testBit i <;> cases b.testBit i <;> decide

@[simp] theorem bitPoly_xor (a b : Nat) : bitPoly (a ^^^ b) = bitPoly a + bitPoly b := by
  ext i
  simp only [coeff_add, coeff_bitPoly, Nat.testBit_xor]
  cases a.testBit i <;> cases b.testBit i <;> decide

theorem bitPoly_shiftLeft (a k : Nat) : bitPoly (a <<< k) = bitPoly a * X ^ k := by
  ext i
  rw [coeff_mul_X_pow']
  simp only [coeff_bitPoly, Nat.testBit_shiftLeft, Bool.and_eq_true, decide_eq_true_eq]
  split <;> simp_all

@[simp] theorem bitPoly_zero : bitPoly 0 = 0 := rfl

@[simp] theorem bitPoly_one : bitPoly 1 = 1 := by simp [bitPoly]

theorem degree_bitPoly_lt {a k : Nat} (h : a < 2 ^ k) : (bitPoly a).degree < k := by
  rw [degree_lt_iff_coeff_zero]
  intro i hi
  rw [coeff_bitPoly, if_neg fun hbit => hi.not_gt (lt_of_testBit_of_lt_two_pow h hbit)]

/-! ### The carry-less product and the reduction -/

theorem bitPoly_carrylessProduct (a : Nat) {b : Nat} (hb : b < 2 ^ 8) :
    bitPoly (carrylessProduct a b) = bitPoly a * bitPoly b := by
  have hfold : ∀ k, bitPoly ((List.range k).foldl (fun acc i => if b.testBit i then acc ^^^ (a <<< i) else acc) 0) =
      bitPoly a * ∑ i ∈ Finset.range k, if b.testBit i then X ^ i else 0 := by
    intro k
    induction k with
    | zero => simp
    | succ k ih =>
      rw [List.range_succ, List.foldl_append, List.foldl_cons, List.foldl_nil, Finset.sum_range_succ, mul_add, ← ih]
      split <;> simp [bitPoly_shiftLeft]
  rw [carrylessProduct, hfold, ← bitPoly_eq_sum_range hb]

theorem bitlen_le_iff (a k : Nat) : bitlen a ≤ k ↔ a < 2 ^ k := by
  unfold bitlen
  split
  · next h => simp [h]
  · next h => rw [Nat.succ_le_iff, Nat.log2_lt h]

theorem bitlen_pos {a : Nat} (h : a ≠ 0) : 0 < bitlen a := by simp [bitlen, h]

theorem testBit_bitlen_sub_one {a : Nat} (h : a ≠ 0) : a.testBit (bitlen a - 1) = true := by
  simp [bitlen, h, Nat.testBit_log2 h]

theorem testBit_eq_false_of_bitlen_le {a i : Nat} (h : bitlen a ≤ i) : a.testBit i = false :=
  Nat.testBit_lt_two_pow ((bitlen_le_iff a i).mp h)

/-- One turn of R240's loop clears the top bit. -/
theorem bitlen_xor_shiftLeft_lt {a g : Nat} (hg : g ≠ 0) (h : bitlen g ≤ bitlen a) :
    bitlen (a ^^^ (g <<< (bitlen a - bitlen g))) < bitlen a := by
  have hpos := bitlen_pos hg
  have ha : a ≠ 0 := by
    rintro rfl
    exact hpos.not_ge h
  have htop : (g <<< (bitlen a - bitlen g)).testBit (bitlen a - 1) = true := by
    rw [Nat.testBit_shiftLeft, show bitlen a - 1 - (bitlen a - bitlen g) = bitlen g - 1 by omega,
      testBit_bitlen_sub_one hg]
    simp only [Bool.and_true, decide_eq_true_eq]
    omega
  refine Nat.lt_of_le_sub_one (by omega) ((bitlen_le_iff _ _).mpr (Nat.lt_pow_two_of_testBit _ fun i hi => ?_))
  rw [Nat.testBit_xor]
  by_cases hi' : i = bitlen a - 1
  · rw [hi', htop, testBit_bitlen_sub_one ha, Bool.xor_self]
  · have hai : a.testBit i = false := testBit_eq_false_of_bitlen_le (by omega)
    have hgi : g.testBit (i - (bitlen a - bitlen g)) = false := testBit_eq_false_of_bitlen_le (by omega)
    simp [hai, hgi, Nat.testBit_shiftLeft]

theorem bitlen_polymodLoop_lt {g : Nat} (hg : g ≠ 0) {fuel a : Nat} (h : bitlen a ≤ fuel) :
    bitlen (polymodLoop g fuel a) < bitlen g := by
  induction fuel generalizing a with
  | zero => exact h.trans_lt (bitlen_pos hg)
  | succ fuel ih =>
    rw [polymodLoop]
    split
    · next hle => exact ih (by have := bitlen_xor_shiftLeft_lt hg hle; omega)
    · next hlt => exact Nat.lt_of_not_le hlt

theorem mk_bitPoly_polymodLoop (g fuel a : Nat) :
    AdjoinRoot.mk (bitPoly g) (bitPoly (polymodLoop g fuel a)) = AdjoinRoot.mk (bitPoly g) (bitPoly a) := by
  induction fuel generalizing a with
  | zero => rfl
  | succ fuel ih =>
    rw [polymodLoop]
    split
    · rw [ih, bitPoly_xor, bitPoly_shiftLeft, map_add, map_mul, AdjoinRoot.mk_self, zero_mul, add_zero]
    · rfl

/-! ### Bytes in the quotient ring -/

/-- GF(2)[X] modulo P_FIELD_POLY (R150). -/
abbrev FieldRing : Type := AdjoinRoot (bitPoly Config.pFieldPoly)

/-- The element of the quotient ring that a byte stands for. -/
noncomputable def toRing (a : Byte) : FieldRing := AdjoinRoot.mk _ (bitPoly a.toNat)

/-- P_ALPHA in the quotient ring (R151, D5). -/
noncomputable def ringAlpha : FieldRing := toRing Config.pAlpha

theorem toRing_injective : Function.Injective toRing := by
  intro a b h
  have hdvd := AdjoinRoot.mk_eq_mk.mp h
  have hlt : (bitPoly a.toNat - bitPoly b.toNat).degree < (8 : Nat) :=
    (degree_sub_le _ _).trans_lt (max_lt (degree_bitPoly_lt a.isLt) (degree_bitPoly_lt b.isLt))
  have hdeg : (8 : Nat) ≤ (bitPoly Config.pFieldPoly).degree := le_degree_of_ne_zero (by rw [coeff_bitPoly]; decide)
  exact BitVec.eq_of_toNat_eq (bitPoly_injective (sub_eq_zero.mp (eq_zero_of_dvd_of_degree_lt hdvd (hlt.trans_le hdeg))))

@[simp] theorem toRing_zero : toRing 0x00#8 = 0 := by simp [toRing]

@[simp] theorem toRing_one : toRing 0x01#8 = 1 := by simp [toRing]

@[simp] theorem toRing_xor (a b : Byte) : toRing (a ^^^ b) = toRing a + toRing b := by
  rw [toRing, BitVec.toNat_xor, bitPoly_xor, map_add, toRing, toRing]

@[simp] theorem toRing_fieldProduct (a b : Byte) : toRing (fieldProduct a b) = toRing a * toRing b := by
  have hlt : polymod (carrylessProduct a.toNat b.toNat) Config.pFieldPoly < 2 ^ 8 :=
    (bitlen_le_iff _ _).mp (Nat.le_of_lt_succ (bitlen_polymodLoop_lt (by decide) le_rfl))
  rw [toRing, fieldProduct, BitVec.toNat_ofNat, Nat.mod_eq_of_lt hlt, polymod, mk_bitPoly_polymodLoop,
    bitPoly_carrylessProduct _ b.isLt, map_mul, toRing, toRing]

/-! ### Powers of α and the product by log tables -/

@[simp] theorem toRing_alphaPow (n : Nat) : toRing (alphaPow n) = ringAlpha ^ n := by
  induction n with
  | zero => rw [alphaPow, toRing_one, pow_zero]
  | succ n ih => rw [alphaPow, toRing_fieldProduct, ih, pow_succ, ringAlpha]

theorem ringAlpha_pow_255 : ringAlpha ^ 255 = 1 := by
  have hpow : alphaPow 255 = 0x01#8 := by
    rw [alphaPow, fieldProduct_alpha, ← expAt_eq_alphaPow (by decide)]
    decide
  rw [← toRing_alphaPow, hpow, toRing_one]

theorem toRing_expAt {i : Nat} (h : i < 255) : toRing (expAt i) = ringAlpha ^ i := by
  rw [expAt_eq_alphaPow h, toRing_alphaPow]

/-- The log tables multiply in the ring (R152). -/
@[simp] theorem toRing_gfMul (a b : Byte) : toRing (gfMul a b) = toRing a * toRing b := by
  rw [gfMul]
  split
  · next h => rcases h with rfl | rfl <;> simp
  · next h =>
    obtain ⟨ha, hb⟩ := not_or.mp h
    obtain ⟨i, hi, rfl⟩ := exists_expAt_eq ha
    obtain ⟨j, hj, rfl⟩ := exists_expAt_eq hb
    rw [log_exp i hi, log_exp j hj, BitVec.toNat_ofNat, BitVec.toNat_ofNat, Nat.mod_eq_of_lt (by omega : i < 2 ^ 8),
      Nat.mod_eq_of_lt (by omega : j < 2 ^ 8), toRing_expAt (Nat.mod_lt _ (by decide)), toRing_expAt hi, toRing_expAt hj,
      ← pow_eq_pow_mod _ ringAlpha_pow_255, pow_add]

end Sys2Proof.Machine
end

section
/-! SUPPORT. What the generator of degree n is and what RSENC writes; and the statements about RSGEN's generator (O18) and RSENC's
snapshot (O20). -/

namespace Sys2Proof.Machine

variable {s : State}

/-! ### RSGEN and RSENC with operands in range -/

theorem exec_rsgen_of_le {n : Byte} (h1 : 1 ≤ n.toNat) (h30 : n.toNat ≤ 30) :
    exec (.rsgen n) s = .next (complete .none (setGenerator n.toNat s)) := if_pos ⟨h1, h30⟩

/-- The state after an RSENC with operands in range (R184). -/
def rsencDone (k n : Nat) (s : State) : State :=
  complete .none { setGenerator n s with cw := Memory.writeBlock (rsencDst s) (rsencResult k n s) s.cw }

theorem exec_rsenc_of_accepts {k n : Byte} (h : RsencAccepts k n s) :
    exec (.rsenc k n) s = .next (rsencDone k.toNat n.toNat s) := by
  obtain ⟨hn1, hn30, hk1, hkn, hsrc, hdst⟩ := h
  simp only [exec, execRsenc]
  rw [if_neg (not_not_intro ⟨hn1, hn30⟩), if_neg (not_not_intro ⟨hk1, hkn⟩), if_neg (not_not_intro ⟨hsrc, hdst⟩)]
  rfl

/-! ### The generator's degree -/

theorem genAt_of_lt (g : Vector Byte 31) {j : Nat} (h : j < 31) : genAt g j = g[j] := dif_pos h

theorem genAt_of_ge (g : Vector Byte 31) {j : Nat} (h : 31 ≤ j) : genAt g j = 0x00#8 := dif_neg (by omega)

theorem genAt_ofFn (f : Fin 31 → Byte) {j : Nat} (h : j < 31) : genAt (Vector.ofFn f) j = f ⟨j, h⟩ := by
  simp [genAt_of_lt _ h]

theorem genAt_genOne (j : Nat) : genAt genOne j = if j = 0 then 0x01#8 else 0x00#8 := by
  by_cases h : j < 31
  · rw [genOne, genAt_ofFn _ h]
  · rw [genAt_of_ge _ (by omega), if_neg (by omega)]

theorem genAt_genStep (g : Vector Byte 31) (i : Nat) {j : Nat} (h : j < 31) :
    genAt (genStep g i) j =
      if j = 0 then gfMul (genAt g 0) (expAt i)
      else if j ≤ i + 1 then genAt g (j - 1) ^^^ gfMul (genAt g j) (expAt i)
      else genAt g j := by
  rw [genStep, genAt_ofFn _ h]

theorem generator_succ (n : Nat) : generator (n + 1) = genStep (generator n) n := by
  rw [generator, List.range_succ, List.foldl_append]
  rfl

theorem gfMul_zero_left (a : Byte) : gfMul 0x00#8 a = 0x00#8 := if_pos (.inl rfl)

/-- The polynomial in GEN is monic of degree n (R181). -/
structure MonicOfDegree (g : Vector Byte 31) (n : Nat) : Prop where
  leading : genAt g n = 0x01#8
  above : ∀ j, n < j → genAt g j = 0x00#8

theorem monicOfDegree_genOne : MonicOfDegree genOne 0 :=
  ⟨genAt_genOne 0, fun j hj => by rw [genAt_genOne, if_neg (by omega)]⟩

theorem monicOfDegree_genStep {g : Vector Byte 31} {i : Nat} (hi : i < 30) (h : MonicOfDegree g i) :
    MonicOfDegree (genStep g i) (i + 1) := by
  refine ⟨?_, fun j hj => ?_⟩
  · rw [genAt_genStep g i (by omega), if_neg (by omega), if_pos le_rfl, Nat.add_sub_cancel, h.leading, h.above _ i.lt_succ_self,
      gfMul_zero_left]
    rfl
  · by_cases hj31 : j < 31
    · rw [genAt_genStep g i hj31, if_neg (by omega), if_neg (by omega), h.above j (by omega)]
    · exact genAt_of_ge _ (by omega)

theorem monicOfDegree_generator {n : Nat} (h : n ≤ 30) : MonicOfDegree (generator n) n := by
  induction n with
  | zero => exact monicOfDegree_genOne
  | succ n ih =>
    rw [generator_succ]
    exact monicOfDegree_genStep (by omega) (ih (by omega))

/-! ### The generator's value -/

/-- Horner's rule from the value acc, in the quotient ring (R180). -/
theorem toRing_horner (f : Nat → Byte) (x : Byte) (m : Nat) (acc : Byte) :
    toRing (((List.range m).reverse.map f).foldl (fun acc d => fieldProduct acc x ^^^ d) acc) =
      toRing acc * toRing x ^ m + ∑ j ∈ Finset.range m, toRing (f j) * toRing x ^ j := by
  induction m generalizing acc with
  | zero => simp
  | succ m ih =>
    rw [List.range_succ, List.reverse_append, List.reverse_singleton, List.singleton_append, List.map_cons, List.foldl_cons, ih,
      toRing_xor, toRing_fieldProduct, Finset.sum_range_succ]
    ring

theorem toRing_polyValue_genCoeffs (g : Vector Byte 31) (x : Byte) :
    toRing (polyValue (genCoeffs g) x) = ∑ j ∈ Finset.range 31, toRing (genAt g j) * toRing x ^ j := by
  rw [polyValue, genCoeffs, toRing_horner, toRing_zero, zero_mul, zero_add]

theorem toRing_genStep_zero (g : Vector Byte 31) {i : Nat} (hi : i < 30) :
    toRing (genAt (genStep g i) 0) = toRing (genAt g 0) * ringAlpha ^ i := by
  rw [genAt_genStep g i (by decide), if_pos rfl, toRing_gfMul, toRing_expAt (by omega)]

/-- One turn of R181's loop on the coefficient of x^(j+1). -/
theorem toRing_genStep_succ {g : Vector Byte 31} {i j : Nat} (hi : i < 30) (h : MonicOfDegree g i) (hj : j < 30) :
    toRing (genAt (genStep g i) (j + 1)) = toRing (genAt g j) + toRing (genAt g (j + 1)) * ringAlpha ^ i := by
  rw [genAt_genStep g i (by omega), if_neg j.succ_ne_zero, Nat.add_sub_cancel]
  split
  · rw [toRing_xor, toRing_gfMul, toRing_expAt (by omega)]
  · next hji => simp [h.above j (by omega), h.above (j + 1) (by omega)]

/-- Multiplying a polynomial of m coefficients by (x + a): coefficient j + 1 of the product is c_j + c_(j+1) a. -/
theorem sum_mul_add {R : Type} [CommRing R] (c : Nat → R) (x a : R) {m : Nat} (hc : c m = 0) :
    ∑ j ∈ Finset.range m, (c j + c (j + 1) * a) * x ^ (j + 1) + c 0 * a =
      (∑ j ∈ Finset.range (m + 1), c j * x ^ j) * (x + a) := by
  have hx : ∑ j ∈ Finset.range (m + 1), c j * x ^ j = ∑ j ∈ Finset.range m, c j * x ^ j := by
    rw [Finset.sum_range_succ, hc, zero_mul, add_zero]
  have ha : ∑ j ∈ Finset.range (m + 1), c j * x ^ j = ∑ j ∈ Finset.range m, c (j + 1) * x ^ (j + 1) + c 0 := by
    rw [Finset.sum_range_succ', pow_zero, mul_one]
  rw [mul_add]
  nth_rewrite 1 [hx]
  rw [ha, add_mul, Finset.sum_mul, Finset.sum_mul, ← add_assoc, ← Finset.sum_add_distrib]
  exact congrArg (· + _) (Finset.sum_congr rfl fun j _ => by ring)

/-- One turn of R181's loop multiplies the polynomial's value by (x ⊕ α^i). -/
theorem polyValue_genStep {g : Vector Byte 31} {i : Nat} (hi : i < 30) (h : MonicOfDegree g i) (x : Byte) :
    polyValue (genCoeffs (genStep g i)) x = fieldProduct (polyValue (genCoeffs g) x) (x ^^^ alphaPow i) := by
  apply toRing_injective
  have htop : toRing (genAt g 30) = 0 := by rw [h.above 30 hi, toRing_zero]
  rw [toRing_fieldProduct, toRing_xor, toRing_alphaPow, toRing_polyValue_genCoeffs, toRing_polyValue_genCoeffs,
    ← sum_mul_add (fun j => toRing (genAt g j)) _ _ htop, Finset.sum_range_succ', pow_zero, mul_one, toRing_genStep_zero g hi,
    Finset.sum_congr rfl fun j hj => by rw [toRing_genStep_succ hi h (Finset.mem_range.mp hj)]]

theorem polyValue_genOne (x : Byte) : polyValue (genCoeffs genOne) x = 0x01#8 := by
  apply toRing_injective
  rw [toRing_polyValue_genCoeffs, Finset.sum_range_succ', Finset.sum_eq_zero fun j _ => by simp [genAt_genOne]]
  simp [genAt_genOne]

theorem rootProduct_succ (n : Nat) (x : Byte) :
    rootProduct (n + 1) x = fieldProduct (rootProduct n x) (x ^^^ alphaPow n) := by
  rw [rootProduct, List.range_succ, List.foldl_append]
  rfl

theorem polyValue_generator {n : Nat} (h : n ≤ 30) (x : Byte) :
    polyValue (genCoeffs (generator n)) x = rootProduct n x := by
  induction n with
  | zero => exact polyValue_genOne x
  | succ n ih =>
    rw [generator_succ, polyValue_genStep (by omega) (monicOfDegree_generator (by omega)), ih (by omega), rootProduct_succ]

/-- Settles O18: each turn of R181's loop keeps GEN monic and multiplies its value by the next factor. -/
theorem rsgenBuildsTheProductOfItsRoots : Obligations.RsgenBuildsTheProductOfItsRoots := by
  unfold Obligations.RsgenBuildsTheProductOfItsRoots
  intro n s h1 h30
  have hmonic := monicOfDegree_generator h30
  refine ⟨generator n.toNat, ?_, hmonic.leading, hmonic.above, polyValue_generator h30⟩
  rw [exec_rsgen_of_le h1 h30, complete, setGenerator, BitVec.ofNat_toNat, BitVec.setWidth_eq]
  rfl

/-! ### What RSENC writes -/

theorem length_remainder (g : Vector Byte 31) (n : Nat) (data : List Byte) : (remainder g n data).length = n := by
  unfold remainder
  induction data using List.reverseRecOn with
  | nil => exact List.length_replicate
  | append_singleton data d _ => simp [remainderStep]

/-- CW after RSENC has completed: its destination holds the result, every other byte is as before. -/
theorem cwByte_rsencDone (k n a : Nat) :
    cwByte (rsencDone k n s) a =
      if rsencDst s ≤ a ∧ a < rsencDst s + n then (rsencResult k n s).getD (a - rsencDst s) 0x00#8 else cwByte s a := by
  have hwrite := cwByte_writeBlock (setGenerator n s) (rsencDst s) (rsencResult k n s) a
  rwa [rsencResult, length_remainder] at hwrite

/-- Settles O20: the result is a function of the state before, and the block write touches the destination's bytes only. -/
theorem rsencHasSnapshotSemantics : Obligations.RsencHasSnapshotSemantics := by
  unfold Obligations.RsencHasSnapshotSemantics
  intro k n s h
  refine ⟨_, exec_rsenc_of_accepts h, List.ext_getElem ?_ fun i hi hi' => ?_, fun a ha => ?_⟩
  · rw [length_cwBlock, length_remainder]
  · rw [length_cwBlock] at hi
    simp only [cwBlock, List.getElem_map, List.getElem_range]
    rw [cwByte_rsencDone, if_pos ⟨Nat.le_add_right _ _, Nat.add_lt_add_left hi _⟩, Nat.add_sub_cancel_left]
    exact List.getD_eq_getElem _ _ hi'
  · rw [cwByte_rsencDone, if_neg ha]

end Sys2Proof.Machine
end

section
/-! SUPPORT. Which cells each step of MINIT sets, where two steps meet, and what the placed symbol holds; and the statements about
MINIT's finders, timing patterns and reserved cells (O22, O23, O25). -/

namespace Sys2Proof.Machine

variable {s t : State}

/-! ### MINIT with a version in range -/

theorem exec_minit_mx {v : Byte} (h1 : 1 ≤ v.toNat) (h40 : v.toNat ≤ 40) (h : exec (.minit v) s = .next t) :
    t.mx = layout v.toNat := by
  rcases exec_minit_cases h with ⟨hv, -⟩ | ⟨-, rfl⟩
  · exact absurd ⟨h1, h40⟩ hv
  · rfl

theorem le_sideOf {v : Nat} (h : 1 ≤ v) : 21 ≤ sideOf v := by unfold sideOf; omega

theorem sideOf_le {v : Nat} (h : v ≤ 40) : sideOf v ≤ 177 := by unfold sideOf; omega

theorem cellAt_layout {v r c : Nat} (hv : v ≤ 40) (hr : r < sideOf v) (hc : c < sideOf v) :
    cellAt (layout v) r c = layoutCell v r c := by
  have hside := sideOf_le hv
  rw [layout, cellAt_tabulate, if_pos ⟨by omega, by omega⟩, if_pos ⟨hr, hc⟩]

/-- The last step that sets a cell wins (R223, log 11). -/
theorem layoutCell_eq (v r c : Nat) :
    layoutCell v r c =
      (versionReserve v r c).getD ((darkModule (sideOf v) r c).getD ((formatReserve (sideOf v) r c).getD
        ((alignCell v r c).getD ((timingCell (sideOf v) r c).getD ((finderCell (sideOf v) r c).getD blankCell))))) := rfl

/-! ### Rings -/

theorem distance_eq_ringOf (r c r0 c0 : Nat) : distance r c r0 c0 = ringOf r c r0 c0 := by
  unfold distance ringOf absDiff
  omega

theorem ringOf_le_iff (r c r0 c0 k : Nat) :
    ringOf r c r0 c0 ≤ k ↔ (r ≤ r0 + k ∧ r0 ≤ r + k) ∧ c ≤ c0 + k ∧ c0 ≤ c + k := by
  unfold ringOf absDiff
  omega

/-! ### Finders (R211) -/

theorem near_finder_iff {s r c : Nat} (hs : 21 ≤ s) (hr : r < s) (hc : c < s) :
    (∃ p ∈ finderCentres s, ringOf r c p.1 p.2 ≤ 4) ↔
      (r ≤ 7 ∧ c ≤ 7) ∨ (r ≤ 7 ∧ s ≤ c + 8) ∨ (s ≤ r + 8 ∧ c ≤ 7) := by
  simp only [finderCentres, List.exists_mem_cons_iff, List.not_mem_nil, false_and, exists_false, or_false, ringOf_le_iff]
  omega

/-- No cell is near two finders. -/
theorem finderCentre_unique {s r c : Nat} (hs : 21 ≤ s) {p q : Nat × Nat} (hp : p ∈ finderCentres s)
    (hq : q ∈ finderCentres s) (hpr : ringOf r c p.1 p.2 ≤ 4) (hqr : ringOf r c q.1 q.2 ≤ 4) : p = q := by
  simp only [finderCentres, List.mem_cons, List.not_mem_nil, or_false] at hp hq
  rw [ringOf_le_iff] at hpr hqr
  rw [Prod.ext_iff] at *
  grind

theorem finderCell_eq_none_iff {s r c : Nat} (hr : r < s) (hc : c < s) :
    finderCell s r c = none ↔ ¬∃ p ∈ finderCentres s, ringOf r c p.1 p.2 ≤ 4 := by
  simp [finderCell, List.findSome?_eq_none_iff, ringOf, hr, hc]

theorem finderCell_eq_some {s r c : Nat} {x : Cell} (h : finderCell s r c = some x) :
    ∃ p ∈ finderCentres s, ringOf r c p.1 p.2 ≤ 4 ∧
      x = fnCell (if ringOf r c p.1 p.2 = 0 ∨ ringOf r c p.1 p.2 = 1 ∨ ringOf r c p.1 p.2 = 3 then .dark else .light) := by
  obtain ⟨p, hp, hx⟩ := List.exists_of_findSome?_eq_some h
  split at hx
  · next hnear => exact ⟨p, hp, max_le hnear.1 hnear.2.1, (Option.some.inj hx).symm⟩
  · cases hx

theorem finderCell_of_near {s r c : Nat} (hs : 21 ≤ s) (hr : r < s) (hc : c < s) {p : Nat × Nat} (hp : p ∈ finderCentres s)
    (h : ringOf r c p.1 p.2 ≤ 4) :
    finderCell s r c =
      some (fnCell (if ringOf r c p.1 p.2 = 0 ∨ ringOf r c p.1 p.2 = 1 ∨ ringOf r c p.1 p.2 = 3 then .dark else .light)) := by
  obtain ⟨x, hx⟩ := Option.ne_none_iff_exists'.mp (mt (finderCell_eq_none_iff hr hc).mp (not_not_intro ⟨p, hp, h⟩))
  obtain ⟨q, hq, hnear, rfl⟩ := finderCell_eq_some hx
  rwa [finderCentre_unique hs hq hp hnear h] at hx

/-! ### Timing patterns (R212) -/

theorem timingCell_of_mem {s r c : Nat} (h : (r = 6 ∧ 8 ≤ c ∧ c + 9 ≤ s) ∨ (c = 6 ∧ 8 ≤ r ∧ r + 9 ≤ s)) :
    timingCell s r c = some (fnCell (timingVal (r + c))) := by
  have hval : ∀ i, timingVal (i + 6) = timingVal i := fun i => by simp [timingVal, Nat.add_mod]
  rcases h with ⟨rfl, h⟩ | ⟨rfl, h⟩
  · rw [timingCell, if_pos ⟨rfl, h⟩, Nat.add_comm, hval]
  · rw [timingCell, if_neg (by omega), if_pos ⟨rfl, h⟩, hval]

theorem timingCell_eq_none_iff (s r c : Nat) :
    timingCell s r c = none ↔ ¬((r = 6 ∧ 8 ≤ c ∧ c + 9 ≤ s) ∨ (c = 6 ∧ 8 ≤ r ∧ r + 9 ≤ s)) := by
  unfold timingCell
  split_ifs <;> simp only [false_iff, true_iff] <;> omega

/-! ### Alignment patterns (R213, R214) -/

theorem alignSkipped_iff (n a b : Nat) :
    alignSkipped n a b = true ↔ (a, b) = (0, 0) ∨ (a, b) = (0, n - 1) ∨ (a, b) = (n - 1, 0) := by
  simp [alignSkipped, or_assoc]

theorem mem_alignCentres_iff (v r0 c0 : Nat) : (r0, c0) ∈ alignCentres v ↔ AlignmentCentre v r0 c0 := by
  simp only [alignCentres, List.mem_flatMap, List.mem_filterMap, Prod.exists, List.mem_zipIdx_iff_getElem?, AlignmentCentre,
    Option.ite_none_left_eq_some, alignSkipped_iff, not_or, Option.some.injEq, Prod.mk.injEq]
  constructor
  · rintro ⟨_, a, ha, _, b, hb, hskip, rfl, rfl⟩
    exact ⟨a, b, ha, hb, by simpa using hskip⟩
  · rintro ⟨a, b, ha, hb, hskip⟩
    exact ⟨r0, a, ha, c0, b, hb, by simpa using hskip, rfl, rfl⟩

/-- Where a centre can stand in a symbol of side s: on even coordinates, at row 6 or column 6 only away from the finders. -/
def CentrePlace (s : Nat) (p : Nat × Nat) : Prop :=
  (p.1 = 6 ∨ 18 ≤ p.1) ∧ (p.2 = 6 ∨ 18 ≤ p.2) ∧ p.1 % 2 = 0 ∧ p.2 % 2 = 0 ∧
  (p.1 = 6 → 18 ≤ p.2 ∧ p.2 + 23 ≤ s) ∧ (p.2 = 6 → 18 ≤ p.1 ∧ p.1 + 23 ≤ s)

theorem centrePlace_of_mem : ∀ v < 41, ∀ p ∈ alignCentres v, CentrePlace (sideOf v) p := by
  unfold CentrePlace
  decide +kernel

theorem alignCell_eq_some {v r c : Nat} {x : Cell} (h : alignCell v r c = some x) :
    ∃ p ∈ alignCentres v, ringOf r c p.1 p.2 ≤ 2 ∧
      x = fnCell (if ringOf r c p.1 p.2 = 0 ∨ ringOf r c p.1 p.2 = 2 then .dark else .light) := by
  obtain ⟨p, hp, hx⟩ := List.exists_of_findSome?_eq_some h
  split at hx
  · next hnear => exact ⟨p, hp, max_le hnear.1 hnear.2, (Option.some.inj hx).symm⟩
  · cases hx

theorem alignCell_eq_none_iff (v r c : Nat) :
    alignCell v r c = none ↔ ¬∃ p ∈ alignCentres v, ringOf r c p.1 p.2 ≤ 2 := by
  simp [alignCell, List.findSome?_eq_none_iff, ringOf]

/-- No alignment pattern reaches the corners that hold the finders, the format cells, the dark module and the version cells. -/
theorem alignCell_corner {v r c : Nat} (hv : v ≤ 40)
    (h : (r ≤ 8 ∧ c ≤ 8) ∨ (r ≤ 8 ∧ sideOf v ≤ c + 11) ∨ (sideOf v ≤ r + 11 ∧ c ≤ 8)) : alignCell v r c = none := by
  rw [alignCell_eq_none_iff]
  rintro ⟨p, hp, hnear⟩
  obtain ⟨hp1, hp2, -, -, hrow, hcol⟩ := centrePlace_of_mem v (by omega) p hp
  rw [ringOf_le_iff] at hnear
  omega

/-- On a line through the centre, the dark rings are the even ones. -/
theorem evenRing_iff {a b : Nat} (hnear : absDiff a b ≤ 2) (heven : b % 2 = 0) :
    (absDiff a b = 0 ∨ absDiff a b = 2) ↔ (a + 6) % 2 = 0 := by
  unfold absDiff at *
  omega

/-- R215: an alignment pattern on row 6 or column 6 has the timing pattern's values there. -/
theorem alignCell_timing {v r c : Nat} (hv : v ≤ 40) {x : Cell} (h : alignCell v r c = some x)
    (hline : (r = 6 ∧ 8 ≤ c) ∨ (c = 6 ∧ 8 ≤ r)) : x = fnCell (timingVal (r + c)) := by
  obtain ⟨p, hp, hnear, rfl⟩ := alignCell_eq_some h
  obtain ⟨hp1, hp2, heven1, heven2, -⟩ := centrePlace_of_mem v (by omega) p hp
  have hring := (ringOf_le_iff ..).mp hnear
  rcases hline with ⟨rfl, -⟩ | ⟨rfl, -⟩
  · have hcentre : ringOf 6 c p.1 p.2 = absDiff c p.2 := by simp [ringOf, absDiff, show p.1 = 6 by omega]
    rw [hcentre] at hnear ⊢
    simp only [timingVal, evenRing_iff hnear heven2, Nat.add_comm 6 c]
  · have hcentre : ringOf r 6 p.1 p.2 = absDiff r p.1 := by simp [ringOf, absDiff, show p.2 = 6 by omega]
    rw [hcentre] at hnear ⊢
    simp only [timingVal, evenRing_iff hnear heven1]

/-! ### Format cells and the dark module (R216, R217) -/

theorem mem_formatCopy1_iff (r c : Nat) :
    (r, c) ∈ formatCopy1 ↔ (c = 8 ∧ r ≤ 8 ∧ r ≠ 6) ∨ (r = 8 ∧ c ≤ 7 ∧ c ≠ 6) := by
  constructor
  · have hcells : ∀ p ∈ formatCopy1, (p.2 = 8 ∧ p.1 ≤ 8 ∧ p.1 ≠ 6) ∨ (p.1 = 8 ∧ p.2 ≤ 7 ∧ p.2 ≠ 6) := by decide
    exact hcells (r, c)
  · have hcol : ∀ r ≤ 8, r ≠ 6 → (r, 8) ∈ formatCopy1 := by decide
    have hrow : ∀ c ≤ 7, c ≠ 6 → (8, c) ∈ formatCopy1 := by decide
    rintro (⟨rfl, hr, hr6⟩ | ⟨rfl, hc, hc6⟩)
    · exact hcol r hr hr6
    · exact hrow c hc hc6

theorem formatCopy2_eq (s : Nat) :
    formatCopy2 s = ((List.range 8).map fun i => (8, s - (i + 1))) ++ (List.range 7).map fun i => (s - (7 - i), 8) := rfl

theorem mem_formatCopy2_iff {s : Nat} (hs : 21 ≤ s) (r c : Nat) :
    (r, c) ∈ formatCopy2 s ↔ (r = 8 ∧ s ≤ c + 8 ∧ c < s) ∨ (c = 8 ∧ s ≤ r + 7 ∧ r < s) := by
  simp only [formatCopy2_eq, List.mem_append, List.mem_map, List.mem_range, Prod.mk.injEq]
  constructor
  · rintro (⟨i, hi, rfl, rfl⟩ | ⟨i, hi, rfl, rfl⟩) <;> omega
  · rintro (⟨rfl, hlo, hhi⟩ | ⟨rfl, hlo, hhi⟩)
    · exact .inl ⟨s - 1 - c, by omega, rfl, by omega⟩
    · exact .inr ⟨r + 7 - s, by omega, by omega, rfl⟩

theorem formatReserve_of_mem {s r c : Nat} (h : (r, c) ∈ formatCopy1 ++ formatCopy2 s) :
    formatReserve s r c = some (fnCell .unset) := if_pos (List.mem_append.mp h)

theorem formatReserve_eq_none_iff (s r c : Nat) :
    formatReserve s r c = none ↔ ¬((r, c) ∈ formatCopy1 ∨ (r, c) ∈ formatCopy2 s) := by
  simp [formatReserve]

theorem darkModule_eq_none_iff (s r c : Nat) : darkModule s r c = none ↔ ¬(r + 8 = s ∧ c = 8) := by simp [darkModule]

/-! ### Version cells (R218) -/

theorem mem_versionBlockA_iff {s : Nat} (hs : 21 ≤ s) (r c : Nat) :
    (r, c) ∈ versionBlockA s ↔ r ≤ 5 ∧ s ≤ c + 11 ∧ c + 9 ≤ s := by
  simp only [versionBlockA, List.mem_map, List.mem_range, Prod.mk.injEq]
  constructor
  · rintro ⟨i, hi, rfl, rfl⟩
    omega
  · intro h
    exact ⟨3 * r + (c + 11 - s), by omega, by omega, by omega⟩

theorem mem_versionBlockB_iff {s : Nat} (hs : 21 ≤ s) (r c : Nat) :
    (r, c) ∈ versionBlockB s ↔ c ≤ 5 ∧ s ≤ r + 11 ∧ r + 9 ≤ s := by
  rw [← mem_versionBlockA_iff hs c r]
  simp only [versionBlockA, versionBlockB, List.mem_map, Prod.mk.injEq, and_comm]

theorem versionReserve_of_mem {v r c : Nat} (hv : 7 ≤ v)
    (h : (r, c) ∈ versionBlockA (sideOf v) ∨ (r, c) ∈ versionBlockB (sideOf v)) :
    versionReserve v r c = some (fnCell .unset) := if_pos ⟨hv, h⟩

theorem versionReserve_eq_none_iff (v r c : Nat) :
    versionReserve v r c = none ↔ ¬(7 ≤ v ∧ ((r, c) ∈ versionBlockA (sideOf v) ∨ (r, c) ∈ versionBlockB (sideOf v))) := by
  simp [versionReserve]

/-! ### Where the steps meet (R215) -/

/-- The corners of the symbol up to row 8 and column 8, which hold the finders, the format cells and the dark module. -/
def InCorner (s r c : Nat) : Prop := (r ≤ 8 ∧ c ≤ 8) ∨ (r ≤ 8 ∧ s ≤ c + 8) ∨ (s ≤ r + 8 ∧ c ≤ 8)

theorem inCorner_of_format {s r c : Nat} (hs : 21 ≤ s) (h : (r, c) ∈ formatCopy1 ++ formatCopy2 s) : InCorner s r c := by
  rw [List.mem_append, mem_formatCopy1_iff, mem_formatCopy2_iff hs] at h
  unfold InCorner
  omega

theorem versionReserve_corner {v r c : Nat} (hv : 1 ≤ v) (h : InCorner (sideOf v) r c) : versionReserve v r c = none := by
  have hs := le_sideOf hv
  rw [versionReserve_eq_none_iff, mem_versionBlockA_iff hs, mem_versionBlockB_iff hs]
  unfold InCorner at h
  omega

theorem layoutCell_finder {v r c : Nat} (h1 : 1 ≤ v) (hv : v ≤ 40) (hr : r < sideOf v) (hc : c < sideOf v) {p : Nat × Nat}
    (hp : p ∈ finderCentres (sideOf v)) (h : ringOf r c p.1 p.2 ≤ 4) :
    layoutCell v r c =
      fnCell (if ringOf r c p.1 p.2 = 0 ∨ ringOf r c p.1 p.2 = 1 ∨ ringOf r c p.1 p.2 = 3 then .dark else .light) := by
  have hs := le_sideOf h1
  have hzone := (near_finder_iff hs hr hc).mp ⟨p, hp, h⟩
  have hversion := versionReserve_corner (r := r) (c := c) h1 (by unfold InCorner; omega)
  have hdark := (darkModule_eq_none_iff (sideOf v) r c).mpr (by omega)
  have hformat := (formatReserve_eq_none_iff (sideOf v) r c).mpr
    (by rw [mem_formatCopy1_iff, mem_formatCopy2_iff hs]; omega)
  have halign := alignCell_corner (r := r) (c := c) hv (by omega)
  have htiming := (timingCell_eq_none_iff (sideOf v) r c).mpr (by omega)
  rw [layoutCell_eq, hversion, hdark, hformat, halign, htiming, finderCell_of_near hs hr hc hp h]
  rfl

theorem layoutCell_timing {v r c : Nat} (h1 : 1 ≤ v) (hv : v ≤ 40)
    (h : (r = 6 ∧ 8 ≤ c ∧ c + 9 ≤ sideOf v) ∨ (c = 6 ∧ 8 ≤ r ∧ r + 9 ≤ sideOf v)) :
    layoutCell v r c = fnCell (timingVal (r + c)) := by
  have hs := le_sideOf h1
  have hversion := (versionReserve_eq_none_iff v r c).mpr
    (by rw [mem_versionBlockA_iff hs, mem_versionBlockB_iff hs]; omega)
  have hdark := (darkModule_eq_none_iff (sideOf v) r c).mpr (by omega)
  have hformat := (formatReserve_eq_none_iff (sideOf v) r c).mpr
    (by rw [mem_formatCopy1_iff, mem_formatCopy2_iff hs]; omega)
  rw [layoutCell_eq, hversion, hdark, hformat, timingCell_of_mem h]
  cases halign : alignCell v r c with
  | none => rfl
  | some x => exact alignCell_timing hv halign (by omega)

theorem layoutCell_format {v r c : Nat} (h1 : 1 ≤ v) (h : (r, c) ∈ formatCopy1 ++ formatCopy2 (sideOf v)) :
    layoutCell v r c = fnCell .unset := by
  have hs := le_sideOf h1
  have hversion := versionReserve_corner h1 (inCorner_of_format hs h)
  have hdark : darkModule (sideOf v) r c = none := by
    rw [List.mem_append, mem_formatCopy1_iff, mem_formatCopy2_iff hs] at h
    rw [darkModule_eq_none_iff]
    omega
  rw [layoutCell_eq, hversion, hdark, formatReserve_of_mem h]
  rfl

theorem layoutCell_dark {v : Nat} (h1 : 1 ≤ v) : layoutCell v (sideOf v - 8) 8 = fnCell .dark := by
  have hs := le_sideOf h1
  have hversion := versionReserve_corner (r := sideOf v - 8) (c := 8) h1 (by unfold InCorner; omega)
  have hdark : darkModule (sideOf v) (sideOf v - 8) 8 = some (fnCell .dark) := if_pos ⟨by omega, rfl⟩
  rw [layoutCell_eq, hversion, hdark]
  rfl

theorem layoutCell_version {v r c : Nat} (h7 : 7 ≤ v)
    (h : (r, c) ∈ versionBlockA (sideOf v) ∨ (r, c) ∈ versionBlockB (sideOf v)) : layoutCell v r c = fnCell .unset := by
  rw [layoutCell_eq, versionReserve_of_mem h7 h]
  rfl

/-! ### The symbol after MINIT -/

/-- Settles O22: no later step sets a cell near a finder. -/
theorem minitPlacesFindersAndSeparators : Obligations.MinitPlacesFindersAndSeparators := by
  unfold Obligations.MinitPlacesFindersAndSeparators
  intro v s t h1 h40 hexec r0 c0 r c hcentre hr hc hnear
  rw [distance_eq_ringOf] at hnear ⊢
  have hp : (r0, c0) ∈ finderCentres (sideOf v.toNat) := by simpa [finderCentres] using hcentre
  rw [exec_minit_mx h1 h40 hexec, cellAt_layout h40 hr hc, layoutCell_finder h1 h40 hr hc hp hnear]
  rfl

/-- Settles O23: an alignment pattern on the line agrees with it, and no other later step sets its cells. -/
theorem minitPlacesTimingPatterns : Obligations.MinitPlacesTimingPatterns := by
  unfold Obligations.MinitPlacesTimingPatterns
  intro v s t h1 h40 hexec i hlo hhi
  have hs := le_sideOf h1
  have hval : timingVal (6 + i) = timingVal i := by simp [timingVal, Nat.add_mod]
  rw [exec_minit_mx h1 h40 hexec]
  constructor
  · rw [cellAt_layout h40 (by omega) (by omega), layoutCell_timing h1 h40 (by omega), hval]
    rfl
  · rw [cellAt_layout h40 (by omega) (by omega), layoutCell_timing h1 h40 (by omega), Nat.add_comm, hval]
    rfl

/-- Settles O25: the three reserving steps come last (R223), and no two of them set the same cell. -/
theorem minitReservesFormatAndVersionCells : Obligations.MinitReservesFormatAndVersionCells := by
  unfold Obligations.MinitReservesFormatAndVersionCells
  intro v s t h1 h40 hexec
  have hs := le_sideOf h1
  rw [exec_minit_mx h1 h40 hexec]
  refine ⟨fun p hp => ?_, ?_, fun h7 i hi => ⟨?_, ?_⟩⟩
  · have hcells := hp
    rw [List.mem_append, mem_formatCopy1_iff, mem_formatCopy2_iff hs] at hcells
    rw [cellAt_layout h40 (by omega) (by omega), layoutCell_format h1 hp]
    rfl
  · rw [cellAt_layout h40 (by omega) (by omega), layoutCell_dark h1]
    rfl
  · rw [cellAt_layout h40 (by omega) (by omega), layoutCell_version h7 (.inl ?_)]
    · rfl
    · exact List.mem_map.mpr ⟨i, List.mem_range.mpr hi, rfl⟩
  · rw [cellAt_layout h40 (by omega) (by omega), layoutCell_version h7 (.inr ?_)]
    · rfl
    · exact List.mem_map.mpr ⟨i, List.mem_range.mpr hi, rfl⟩

end Sys2Proof.Machine
end

section
/-! SUPPORT. Writing a list of cells in order, which MPLACE and MFORMAT do: what each cell holds afterwards. -/

namespace Sys2Proof.Machine

variable {s : State}

/-- Cell i of the list receives value i: the loop of R231, R241 and R243. -/
def writeVals (val : Nat → CellVal) (cells : List (Nat × Nat)) (mx : Matrix) : Matrix :=
  cells.zipIdx.foldl (fun mx p => setVal mx p.1.1 p.1.2 (val p.2)) mx

theorem writeBits_eq (bit : Nat → Bool) (cells : List (Nat × Nat)) (mx : Matrix) :
    writeBits bit cells mx = writeVals (fun i => valOfBit (bit i)) cells mx := rfl

theorem placedMatrix_eq (src count : Nat) :
    placedMatrix s src count =
      writeVals (placedVal s src count) ((zigzag s.mx (symbolSide s)).take (symbolDatamod s)) s.mx := rfl

@[simp] theorem fn_writeVals (val : Nat → CellVal) (cells : List (Nat × Nat)) (mx : Matrix) (r c : Nat) :
    (cellAt (writeVals val cells mx) r c).fn = (cellAt mx r c).fn :=
  fn_foldl_setVal cells.zipIdx (fun p => p.1) (fun p => val p.2) mx r c

theorem cellAt_writeVals_other (val : Nat → CellVal) {cells : List (Nat × Nat)} (mx : Matrix) {r c : Nat}
    (h : (r, c) ∉ cells) : cellAt (writeVals val cells mx) r c = cellAt mx r c :=
  cellAt_foldl_setVal_other cells.zipIdx (fun p => p.1) (fun p => val p.2) mx fun _ hp hrc =>
    h (hrc ▸ List.fst_mem_of_mem_zipIdx hp)

theorem cellAt_writeVals_getElem (val : Nat → CellVal) {cells : List (Nat × Nat)} (hd : cells.Nodup) (mx : Matrix)
    {i : Nat} {p : Nat × Nat} (hp : cells[i]? = some p) (hr : p.1 < 177) (hc : p.2 < 177) :
    cellAt (writeVals val cells mx) p.1 p.2 = { cellAt mx p.1 p.2 with val := val i } := by
  have hdistinct : cells.zipIdx.Pairwise fun x y => x.1 ≠ y.1 := by
    rw [← List.pairwise_map, List.zipIdx_map_fst]
    exact hd
  exact cellAt_foldl_setVal_mem cells.zipIdx (fun p => p.1) (fun p => val p.2) mx hdistinct
    (p := (p, i)) (List.mem_zipIdx_iff_getElem?.mpr hp) hr hc

end Sys2Proof.Machine
end

section
/-! SUPPORT. Which cells are function modules, and that no command but MINIT changes a mark; and the statement about data modules
(O26). -/

namespace Sys2Proof.Machine

variable {s t : State}

theorem fn_masked (mx : Matrix) (side : Nat) (m : BitVec 3) (r c : Nat) :
    (cellAt (masked mx side m) r c).fn = (cellAt mx r c).fn := by
  rw [masked, cellAt_tabulate]
  split
  · unfold maskedCell
    dsimp only
    split <;> rfl
  · next h => rw [cellAt_outside h]

theorem fn_placedMatrix (src count : Nat) (r c : Nat) :
    (cellAt (placedMatrix s src count) r c).fn = (cellAt s.mx r c).fn := by
  rw [placedMatrix_eq, fn_writeVals]

theorem fn_formattedMatrix (f : BitVec 15) (r c : Nat) :
    (cellAt (formattedMatrix s f) r c).fn = (cellAt s.mx r c).fn := by
  unfold formattedMatrix
  split <;> simp only [writeVersion, writeFormat, writeBits_eq, fn_writeVals]

theorem exec_mark_kept {i : Instr} (hi : ∀ v, i ≠ .minit v) (h : exec i s = .next t) (r c : Nat) :
    (cellAt t.mx r c).fn = (cellAt s.mx r c).fn := by
  cases i with
  | minit v => exact absurd rfl (hi v)
  | mplace =>
    rcases exec_mplace_cases h with ⟨-, rfl⟩ | ⟨-, ⟨-, rfl⟩ | ⟨-, ⟨-, rfl⟩ | ⟨-, rfl⟩⟩⟩
    · rfl
    · rfl
    · rfl
    · exact fn_placedMatrix _ _ r c
  | mapply m =>
    rcases exec_mapply_cases h with ⟨-, rfl⟩ | ⟨-, rfl⟩
    · rfl
    · exact fn_masked _ _ _ r c
  | mselect =>
    rcases exec_mselect_cases h with ⟨-, rfl⟩ | ⟨-, rfl⟩
    · rfl
    · exact fn_masked _ _ _ r c
  | mformat l =>
    rcases exec_mformat_cases h with ⟨-, rfl⟩ | ⟨-, rfl⟩
    · rfl
    · exact fn_formattedMatrix _ r c
  | mscore m => rcases exec_mscore_cases h with ⟨-, rfl⟩ | ⟨-, rfl⟩ <;> rfl
  | nop => cases h; rfl
  | gfadd a b => cases h; rfl
  | gfmul a b => cases h; rfl
  | gfexp e => cases h; rfl
  | gfdiv a b => rcases exec_gfdiv_cases h with ⟨-, rfl⟩ | ⟨-, rfl⟩ <;> rfl
  | gfinv a => rcases exec_gfinv_cases h with ⟨-, rfl⟩ | ⟨-, rfl⟩ <;> rfl
  | gflog a => rcases exec_gflog_cases h with ⟨-, rfl⟩ | ⟨-, rfl⟩ <;> rfl
  | rsgen n => rcases exec_rsgen_cases h with ⟨-, rfl⟩ | ⟨-, rfl⟩ <;> rfl
  | rsenc k n => rcases exec_rsenc_cases h with ⟨-, rfl⟩ | ⟨-, ⟨-, rfl⟩ | ⟨-, ⟨-, rfl⟩ | ⟨-, rfl⟩⟩⟩ <;> rfl

/-! ### The marks after MINIT -/

/-- Every step that sets a cell marks it. -/
theorem fn_of_mem_layoutSteps {v r c : Nat} {o : Option Cell} (ho : o ∈ layoutSteps v r c) {x : Cell} (hx : o = some x) :
    x.fn = true := by
  subst hx
  simp only [layoutSteps, List.mem_cons, List.not_mem_nil, or_false] at ho
  rcases ho with h | h | h | h | h | h
  · obtain ⟨p, -, -, rfl⟩ := finderCell_eq_some h.symm
    rfl
  · unfold timingCell at h
    grind [fnCell]
  · obtain ⟨p, -, -, rfl⟩ := alignCell_eq_some h.symm
    rfl
  · grind [formatReserve, fnCell]
  · grind [darkModule, fnCell]
  · grind [versionReserve, fnCell]

/-- Taking steps in order: marked at the end when marked before or set by some step. -/
theorem fn_foldl_steps {steps : List (Option Cell)} (hmark : ∀ o ∈ steps, ∀ x, o = some x → x.fn = true) (start : Cell) :
    (steps.foldl (fun cell step => step.getD cell) start).fn = true ↔ start.fn = true ∨ ∃ o ∈ steps, o ≠ none := by
  induction steps generalizing start with
  | nil => simp
  | cons o steps ih =>
    rw [List.foldl_cons, ih fun o ho => hmark o (List.mem_cons_of_mem _ ho), List.exists_mem_cons_iff]
    cases ho : o with
    | none => simp
    | some x => simp [hmark o List.mem_cons_self x ho]

theorem foldl_steps_none {steps : List (Option Cell)} (h : ∀ o ∈ steps, o = none) (start : Cell) :
    steps.foldl (fun cell step => step.getD cell) start = start := by
  induction steps with
  | nil => rfl
  | cons o steps ih =>
    obtain ⟨rfl, hrest⟩ := List.forall_mem_cons.mp h
    exact ih hrest

theorem near_alignment_iff (v r c : Nat) :
    (∃ p ∈ alignCentres v, ringOf r c p.1 p.2 ≤ 2) ↔ ∃ r0 c0, AlignmentCentre v r0 c0 ∧ distance r c r0 c0 ≤ 2 := by
  simp only [Prod.exists, mem_alignCentres_iff, distance_eq_ringOf]

theorem mem_versionBlocks_iff (s r c : Nat) :
    ((r, c) ∈ versionBlockA s ∨ (r, c) ∈ versionBlockB s) ↔
      ∃ i < 18, (r, c) = (i / 3, s - 11 + i % 3) ∨ (r, c) = (s - 11 + i % 3, i / 3) := by
  simp only [versionBlockA, versionBlockB, List.mem_map, List.mem_range, and_or_left, exists_or, eq_comm (b := (r, c))]

theorem functionModule_iff {v r c : Nat} (h1 : 1 ≤ v) (hr : r < sideOf v) (hc : c < sideOf v) :
    FunctionModule v r c ↔ ∃ o ∈ layoutSteps v r c, o ≠ none := by
  have hs := le_sideOf h1
  simp only [layoutSteps, List.exists_mem_cons_iff, List.not_mem_nil, false_and, exists_false, or_false, ne_eq,
    finderCell_eq_none_iff hr hc, near_finder_iff hs hr hc, timingCell_eq_none_iff, alignCell_eq_none_iff,
    near_alignment_iff, formatReserve_eq_none_iff, darkModule_eq_none_iff, versionReserve_eq_none_iff, mem_versionBlocks_iff,
    not_not, FunctionModule]
  have hright : sideOf v - 8 ≤ c ↔ sideOf v ≤ c + 8 := by omega
  have hbottom : sideOf v - 8 ≤ r ↔ sideOf v ≤ r + 8 := by omega
  have hrow : c ≤ sideOf v - 9 ↔ c + 9 ≤ sideOf v := by omega
  have hcol : r ≤ sideOf v - 9 ↔ r + 9 ≤ sideOf v := by omega
  have hdark : r = sideOf v - 8 ↔ r + 8 = sideOf v := by omega
  simp only [hright, hbottom, hrow, hcol, hdark, or_assoc]

theorem layoutCell_fn_iff {v r c : Nat} (h1 : 1 ≤ v) (hr : r < sideOf v) (hc : c < sideOf v) :
    (layoutCell v r c).fn = true ↔ FunctionModule v r c := by
  rw [functionModule_iff h1 hr hc, layoutCell, fn_foldl_steps fun o ho x hx => fn_of_mem_layoutSteps ho hx]
  simp [blankCell]

theorem layoutCell_of_not_functionModule {v r c : Nat} (h1 : 1 ≤ v) (hr : r < sideOf v) (hc : c < sideOf v)
    (h : ¬FunctionModule v r c) : layoutCell v r c = blankCell := by
  rw [functionModule_iff h1 hr hc] at h
  push Not at h
  exact foldl_steps_none h _

/-- Settles O26: a step of R223 sets a cell exactly when the cell is a function module, and every later command sets values
only. -/
theorem minitLeavesTheOtherCellsAsDataModules : Obligations.MinitLeavesTheOtherCellsAsDataModules := by
  unfold Obligations.MinitLeavesTheOtherCellsAsDataModules
  refine ⟨fun v s t h1 h40 hexec r c hr hc => ?_, fun i s t hi hexec r c => exec_mark_kept hi hexec r c⟩
  rw [exec_minit_mx h1 h40 hexec, cellAt_layout h40 hr hc]
  exact ⟨(layoutCell_fn_iff h1 hr hc).mpr, layoutCell_of_not_functionModule h1 hr hc⟩

end Sys2Proof.Machine
end

section
/-! SUPPORT. The zig-zag visits cells of the symbol, each once; and the statement about the placed codeword stream (O28). -/

namespace Sys2Proof.Machine

variable {s : State}

/-! ### Column pairs (R220) -/

theorem mem_zigzagColumns {fuel col x : Nat} (h : x ∈ zigzagColumns fuel col) : 1 ≤ x ∧ x ≤ col := by
  induction fuel generalizing col with
  | zero => cases h
  | succ fuel ih =>
    rw [zigzagColumns] at h
    split at h
    · cases h
    · rcases List.mem_cons.mp h with rfl | h
      · split <;> omega
      · have hx := ih h
        split at hx <;> omega

/-- Going leftwards, no two pairs share a column. -/
theorem zigzagColumns_pairwise (fuel col : Nat) : (zigzagColumns fuel col).Pairwise fun a b => b + 2 ≤ a := by
  induction fuel generalizing col with
  | zero => exact .nil
  | succ fuel ih =>
    rw [zigzagColumns]
    split
    · exact .nil
    · refine List.pairwise_cons.mpr ⟨fun b hb => ?_, ih _⟩
      have hb := mem_zigzagColumns hb
      omega

theorem nodup_map_range {α : Type} {n : Nat} {f : Nat → α} (hf : ∀ a < n, ∀ b < n, f a = f b → a = b) :
    ((List.range n).map f).Nodup :=
  List.nodup_range.map_on fun a ha b hb => hf a (List.mem_range.mp ha) b (List.mem_range.mp hb)

theorem mem_zigzagRows {side col r : Nat} (h : r ∈ zigzagRows side col) : r < side := by
  unfold zigzagRows at h
  split at h
  · obtain ⟨t, ht, rfl⟩ := List.mem_map.mp h
    have := List.mem_range.mp ht
    omega
  · exact List.mem_range.mp h

theorem nodup_zigzagRows (side col : Nat) : (zigzagRows side col).Nodup := by
  unfold zigzagRows
  split
  · exact nodup_map_range fun a ha b hb hab => by omega
  · exact List.nodup_range

/-! ### The sequence -/

/-- The modules the zig-zag visits at one row of a column pair. -/
def rowPair (mx : Matrix) (col r : Nat) : List (Nat × Nat) := [(r, col), (r, col - 1)].filter fun p => !(cellAt mx p.1 p.2).fn

theorem zigzag_eq (mx : Matrix) (side : Nat) :
    zigzag mx side =
      (zigzagColumns side (side - 1)).flatMap fun col => (zigzagRows side col).flatMap (rowPair mx col) := rfl

theorem mem_rowPair {mx : Matrix} {col r : Nat} {p : Nat × Nat} (h : p ∈ rowPair mx col r) :
    p.1 = r ∧ (p.2 = col ∨ p.2 = col - 1) ∧ (cellAt mx p.1 p.2).fn = false := by
  simp only [rowPair, List.mem_filter, List.mem_cons, List.not_mem_nil, or_false, Bool.not_eq_true'] at h
  obtain ⟨rfl | rfl, hfn⟩ := h
  · exact ⟨rfl, .inl rfl, hfn⟩
  · exact ⟨rfl, .inr rfl, hfn⟩

theorem nodup_rowPair (mx : Matrix) {col : Nat} (r : Nat) (h : 1 ≤ col) : (rowPair mx col r).Nodup := by
  have hne : (r, col) ≠ (r, col - 1) := by
    rw [Ne, Prod.mk.injEq]
    omega
  exact List.Nodup.filter _ (List.nodup_cons.mpr ⟨List.mem_singleton.not.mpr hne, List.nodup_singleton _⟩)

theorem mem_zigzag {mx : Matrix} {side : Nat} {p : Nat × Nat} (h : p ∈ zigzag mx side) :
    p.1 < side ∧ p.2 < side ∧ (cellAt mx p.1 p.2).fn = false := by
  rw [zigzag_eq] at h
  obtain ⟨col, hcol, h⟩ := List.mem_flatMap.mp h
  obtain ⟨r, hr, h⟩ := List.mem_flatMap.mp h
  obtain ⟨rfl, hc, hfn⟩ := mem_rowPair h
  have hcol := mem_zigzagColumns hcol
  exact ⟨mem_zigzagRows hr, by omega, hfn⟩

theorem nodup_zigzag (mx : Matrix) (side : Nat) : (zigzag mx side).Nodup := by
  rw [zigzag_eq]
  refine List.nodup_flatMap.mpr ⟨fun col hcol => List.nodup_flatMap.mpr ⟨fun r _ => ?_, ?_⟩, ?_⟩
  · exact nodup_rowPair mx r (mem_zigzagColumns hcol).1
  · refine (nodup_zigzagRows side col).imp fun hne p hp hq => ?_
    exact hne ((mem_rowPair hp).1.symm.trans (mem_rowPair hq).1)
  · refine (zigzagColumns_pairwise side (side - 1)).imp fun hleft p hp hq => ?_
    obtain ⟨r, -, hp⟩ := List.mem_flatMap.mp hp
    obtain ⟨r', -, hq⟩ := List.mem_flatMap.mp hq
    obtain ⟨-, hcol, -⟩ := mem_rowPair hp
    obtain ⟨-, hcol', -⟩ := mem_rowPair hq
    omega

/-! ### MPLACE -/

theorem exec_mplace_of_accepts (hp : s.phase = .func) (hr : mplaceSrc s + mplaceCount s ≤ 4096)
    (hc : mplaceCount s = symbolDatamod s / 8) :
    exec .mplace s =
      .next (complete .none { s with mx := placedMatrix s (mplaceSrc s) (mplaceCount s), phase := .placed }) := by
  simp only [exec, execMplace]
  rw [if_neg (not_not_intro hp), if_neg (not_not_intro hr), if_neg (not_not_intro hc)]

theorem cellAt_placedMatrix_getElem {src count : Nat} (hs : symbolSide s ≤ 177) {b : Nat} {p : Nat × Nat}
    (hb : b < symbolDatamod s) (hp : (zigzag s.mx (symbolSide s))[b]? = some p) :
    cellAt (placedMatrix s src count) p.1 p.2 = { fn := false, val := placedVal s src count b } := by
  obtain ⟨hr, hc, hfn⟩ := mem_zigzag (List.mem_of_getElem? hp)
  have htake : ((zigzag s.mx (symbolSide s)).take (symbolDatamod s))[b]? = some p := by rwa [List.getElem?_take_of_lt hb]
  rw [placedMatrix_eq, cellAt_writeVals_getElem _ ((nodup_zigzag _ _).sublist (List.take_sublist _ _)) _ htake
    (by omega) (by omega)]
  simp only [hfn]

theorem cellAt_placedMatrix_other {src count r c : Nat}
    (h : ∀ b < symbolDatamod s, (zigzag s.mx (symbolSide s))[b]? ≠ some (r, c)) :
    cellAt (placedMatrix s src count) r c = cellAt s.mx r c := by
  rw [placedMatrix_eq]
  refine cellAt_writeVals_other _ _ fun hmem => ?_
  obtain ⟨b, hb⟩ := List.mem_iff_getElem?.mp hmem
  rw [List.getElem?_take] at hb
  split at hb
  · next hlt => exact h b hlt hb
  · cases hb

/-- Settles O28: the zig-zag names each module once, so module p_b keeps the value written for b. -/
theorem mplacePlacesTheCodewordStream : Obligations.MplacePlacesTheCodewordStream := by
  unfold Obligations.MplacePlacesTheCodewordStream
  intro s hphase hrange hcount hside
  refine ⟨placedMatrix s s.lplSrc.toNat s.lplCount.toNat, exec_mplace_of_accepts hphase hrange hcount, fun b p hb hp => ?_,
    fun r c h => cellAt_placedMatrix_other h⟩
  exact cellAt_placedMatrix_getElem hside hb hp

end Sys2Proof.Machine
end

section
/-! SUPPORT. The words MFORMAT computes are codewords of their BCH codes, and the cells it writes hold them; and the statements about
the format word and the version word (O30, O31). -/

namespace Sys2Proof.Machine

open Polynomial

variable {s : State}

/-! ### A number with its remainder appended is divisible (R240, R242) -/

theorem mk_bitPoly_polymod (a g : Nat) :
    AdjoinRoot.mk (bitPoly g) (bitPoly (polymod a g)) = AdjoinRoot.mk (bitPoly g) (bitPoly a) :=
  mk_bitPoly_polymodLoop g _ a

theorem polymod_lt {g k : Nat} (hg : bitlen g = k + 1) (a : Nat) : polymod a g < 2 ^ k := by
  have hne : g ≠ 0 := by
    rintro rfl
    cases hg
  have hlt := bitlen_polymodLoop_lt hne (le_refl (bitlen a))
  exact (bitlen_le_iff _ _).mp (by rw [polymod]; omega)

/-- A multiple of g has remainder 0. -/
theorem polymod_eq_zero {a g k : Nat} (hg : bitlen g = k + 1) (h : AdjoinRoot.mk (bitPoly g) (bitPoly a) = 0) :
    polymod a g = 0 := by
  have htop : g.testBit k = true := by
    have hbit := testBit_bitlen_sub_one (a := g) (by rintro rfl; cases hg)
    rwa [hg, Nat.add_sub_cancel] at hbit
  have hdeg : (k : WithBot Nat) ≤ (bitPoly g).degree := le_degree_of_ne_zero (by rw [coeff_bitPoly, htop]; decide)
  have hdvd : bitPoly g ∣ bitPoly (polymod a g) := AdjoinRoot.mk_eq_zero.mp ((mk_bitPoly_polymod a g).trans h)
  refine bitPoly_injective ?_
  rw [eq_zero_of_dvd_of_degree_lt hdvd ((degree_bitPoly_lt (polymod_lt hg a)).trans_le hdeg), bitPoly_zero]

theorem shiftLeft_or_eq_xor {r k : Nat} (d : Nat) (h : r < 2 ^ k) : d <<< k ||| r = d <<< k ^^^ r := by
  refine Nat.eq_of_testBit_eq fun i => ?_
  rw [Nat.testBit_or, Nat.testBit_xor, Nat.testBit_shiftLeft]
  by_cases hi : k ≤ i
  · have hr : r.testBit i = false := Nat.testBit_lt_two_pow (h.trans_le (Nat.pow_le_pow_right (by decide) hi))
    rw [hr, Bool.or_false, Bool.xor_false]
  · simp [hi]

/-- The data d in the high bits, the remainder of d x^k by g in the low k: the word of a BCH code with generator g. -/
def bchWord (g k d : Nat) : Nat := d <<< k ||| polymod (d <<< k) g

theorem polymod_bchWord {g k : Nat} (hg : bitlen g = k + 1) (d : Nat) : polymod (bchWord g k d) g = 0 := by
  refine polymod_eq_zero hg ?_
  rw [bchWord, shiftLeft_or_eq_xor d (polymod_lt hg _), bitPoly_xor, map_add, mk_bitPoly_polymod, ← map_add, ← bitPoly_xor,
    Nat.xor_self, bitPoly_zero, map_zero]

theorem bchWord_eq_add {g k : Nat} (hg : bitlen g = k + 1) (d : Nat) :
    bchWord g k d = d * 2 ^ k + polymod (d <<< k) g := by
  rw [bchWord, ← Nat.shiftLeft_add_eq_or_of_lt (polymod_lt hg _), Nat.shiftLeft_eq]

theorem bchWord_div {g k : Nat} (hg : bitlen g = k + 1) (d : Nat) : bchWord g k d / 2 ^ k = d := by
  rw [bchWord_eq_add hg, Nat.add_comm, Nat.add_mul_div_right _ _ (Nat.two_pow_pos k), Nat.div_eq_of_lt (polymod_lt hg _), Nat.zero_add]

theorem bchWord_lt {g k n : Nat} (hg : bitlen g = k + 1) {d : Nat} (hd : d < 2 ^ n) : bchWord g k d < 2 ^ (n + k) := by
  have hr := polymod_lt hg (d <<< k)
  rw [bchWord_eq_add hg, pow_add]
  nlinarith

theorem bitlen_formatGenerator : bitlen 0x537 = 10 + 1 := by decide

theorem bitlen_versionGenerator : bitlen 0x1F25 = 12 + 1 := by decide

/-! ### The format word and the version word -/

theorem levelCode_eq : ∀ level : BitVec 2, levelCode level = ecCode level.toNat := by decide

theorem levelCode_lt : ∀ level : BitVec 2, levelCode level < 4 := by decide

/-- The five data bits of the format word: the level's code, then the mask (R240). -/
def formatData (level : BitVec 2) (m : BitVec 3) : Nat := levelCode level * 8 + m.toNat

theorem formatData_lt (level : BitVec 2) (m : BitVec 3) : formatData level m < 2 ^ 5 := by
  have hcode := levelCode_lt level
  have hm := m.isLt
  unfold formatData
  omega

theorem formatWord_unmasked (level : BitVec 2) (m : BitVec 3) :
    (formatWord level m ^^^ 0x5412#15).toNat = bchWord 0x537 10 (formatData level m) := by
  have hd : levelCode level <<< 3 ||| m.toNat = formatData level m := by
    rw [← Nat.shiftLeft_add_eq_or_of_lt m.isLt, Nat.shiftLeft_eq, formatData]
  have hlt := bchWord_lt bitlen_formatGenerator (formatData_lt level m)
  have hword : formatWord level m = BitVec.ofNat 15 (bchWord 0x537 10 (formatData level m)) ^^^ 0x5412#15 := by
    rw [← BitVec.ofNat_xor, ← hd]
    rfl
  rw [hword, BitVec.xor_assoc, BitVec.xor_self, BitVec.xor_zero, BitVec.toNat_ofNat, Nat.mod_eq_of_lt hlt]

theorem toNat_versionWord {v : Nat} (h : v < 2 ^ 6) : (versionWord v).toNat = bchWord 0x1F25 12 v := by
  rw [versionWord, ← bchWord, BitVec.toNat_ofNat, Nat.mod_eq_of_lt (bchWord_lt bitlen_versionGenerator h)]

theorem levelOperand_eq (l : Byte) : levelOperand l = l.setWidth 2 := by
  exact BitVec.eq_of_toNat_eq (by simp [levelOperand])

theorem levelCode_levelOperand (l : Byte) : levelCode (levelOperand l) = ecCode (l.toNat % 4) := by
  rw [levelCode_eq, levelOperand_eq, BitVec.toNat_setWidth]

/-! ### Where MFORMAT writes (R216, R218) -/

theorem nodup_formatCopy1 : formatCopy1.Nodup := by decide

theorem nodup_formatCopy2 {side : Nat} (h : 21 ≤ side) : (formatCopy2 side).Nodup := by
  rw [formatCopy2_eq, List.nodup_append']
  refine ⟨nodup_map_range fun a ha b hb hab => ?_, nodup_map_range fun a ha b hb hab => ?_, fun p hp hq => ?_⟩
  · rw [Prod.mk.injEq] at hab
    omega
  · rw [Prod.mk.injEq] at hab
    omega
  · obtain ⟨a, -, rfl⟩ := List.mem_map.mp hp
    obtain ⟨b, hb, hab⟩ := List.mem_map.mp hq
    rw [List.mem_range] at hb
    rw [Prod.mk.injEq] at hab
    omega

theorem nodup_versionBlockA (side : Nat) : (versionBlockA side).Nodup :=
  nodup_map_range fun a _ b _ hab => by
    rw [Prod.mk.injEq] at hab
    omega

theorem nodup_versionBlockB (side : Nat) : (versionBlockB side).Nodup :=
  nodup_map_range fun a _ b _ hab => by
    rw [Prod.mk.injEq] at hab
    omega

theorem formatCopies_disjoint {side : Nat} (h : 21 ≤ side) : formatCopy1.Disjoint (formatCopy2 side) := by
  rintro ⟨r, c⟩ h1 h2
  rw [mem_formatCopy1_iff] at h1
  rw [mem_formatCopy2_iff h] at h2
  omega

theorem versionBlocks_disjoint {side : Nat} (h : 21 ≤ side) : (versionBlockA side).Disjoint (versionBlockB side) := by
  rintro ⟨r, c⟩ h1 h2
  rw [mem_versionBlockA_iff h] at h1
  rw [mem_versionBlockB_iff h] at h2
  omega

theorem not_mem_versionBlocks_of_format {side r c : Nat} (h : 21 ≤ side) (hp : (r, c) ∈ formatCopy1 ++ formatCopy2 side) :
    (r, c) ∉ versionBlockA side ∧ (r, c) ∉ versionBlockB side := by
  rw [List.mem_append, mem_formatCopy1_iff, mem_formatCopy2_iff h] at hp
  rw [mem_versionBlockA_iff h, mem_versionBlockB_iff h]
  omega

/-! ### The cells after MFORMAT -/

/-- Two lists with no cell in common, written with the same values: cell i of either holds value i. -/
theorem cellAt_writeVals_two (val : Nat → CellVal) {xs ys : List (Nat × Nat)} (hx : xs.Nodup) (hy : ys.Nodup)
    (hdisj : xs.Disjoint ys) (mx : Matrix) {i : Nat} {p : Nat × Nat} (h : xs[i]? = some p ∨ ys[i]? = some p)
    (hr : p.1 < 177) (hc : p.2 < 177) :
    cellAt (writeVals val ys (writeVals val xs mx)) p.1 p.2 = { cellAt mx p.1 p.2 with val := val i } := by
  rcases h with h | h
  · rw [cellAt_writeVals_other _ _ (hdisj (List.mem_of_getElem? h)), cellAt_writeVals_getElem _ hx _ h hr hc]
  · rw [cellAt_writeVals_getElem _ hy _ h hr hc,
      cellAt_writeVals_other _ _ fun hp => hdisj hp (List.mem_of_getElem? h)]

section

variable {side : Nat} (h21 : 21 ≤ side) (h177 : side ≤ 177) (mx : Matrix)
include h21 h177

theorem cellAt_writeFormat (f : BitVec 15) {i : Nat} {p : Nat × Nat}
    (h : formatCopy1[i]? = some p ∨ (formatCopy2 side)[i]? = some p) :
    cellAt (writeFormat side f mx) p.1 p.2 = { cellAt mx p.1 p.2 with val := valOfBit (f.getLsbD i) } := by
  have hmem := h.imp List.mem_of_getElem? List.mem_of_getElem?
  rw [mem_formatCopy1_iff, mem_formatCopy2_iff h21] at hmem
  rw [writeFormat, writeBits_eq, writeBits_eq]
  exact cellAt_writeVals_two _ nodup_formatCopy1 (nodup_formatCopy2 h21) (formatCopies_disjoint h21) mx h (by omega) (by omega)

theorem cellAt_writeVersion (w : BitVec 18) {i : Nat} {p : Nat × Nat}
    (h : (versionBlockA side)[i]? = some p ∨ (versionBlockB side)[i]? = some p) :
    cellAt (writeVersion side w mx) p.1 p.2 = { cellAt mx p.1 p.2 with val := valOfBit (w.getLsbD i) } := by
  have hmem := h.imp List.mem_of_getElem? List.mem_of_getElem?
  rw [mem_versionBlockA_iff h21, mem_versionBlockB_iff h21] at hmem
  rw [writeVersion, writeBits_eq, writeBits_eq]
  exact cellAt_writeVals_two _ (nodup_versionBlockA _) (nodup_versionBlockB _) (versionBlocks_disjoint h21) mx h (by omega)
    (by omega)

end

theorem cellAt_writeFormat_other {side r c : Nat} (f : BitVec 15) (mx : Matrix) (h1 : (r, c) ∉ formatCopy1)
    (h2 : (r, c) ∉ formatCopy2 side) : cellAt (writeFormat side f mx) r c = cellAt mx r c := by
  rw [writeFormat, writeBits_eq, writeBits_eq, cellAt_writeVals_other _ _ h2, cellAt_writeVals_other _ _ h1]

theorem cellAt_writeVersion_other {side r c : Nat} (w : BitVec 18) (mx : Matrix)
    (h : (r, c) ∉ versionBlockA side ∧ (r, c) ∉ versionBlockB side) :
    cellAt (writeVersion side w mx) r c = cellAt mx r c := by
  rw [writeVersion, writeBits_eq, writeBits_eq, cellAt_writeVals_other _ _ h.2, cellAt_writeVals_other _ _ h.1]

/-- The version blocks hold no format cell, so the format word stands whether or not they are written. -/
theorem cellAt_formattedMatrix_format (h21 : 21 ≤ symbolSide s) (h177 : symbolSide s ≤ 177) (f : BitVec 15) {i : Nat}
    {p : Nat × Nat} (h : formatCopy1[i]? = some p ∨ (formatCopy2 (symbolSide s))[i]? = some p) :
    cellAt (formattedMatrix s f) p.1 p.2 = { cellAt s.mx p.1 p.2 with val := valOfBit (f.getLsbD i) } := by
  have hmem := List.mem_append.mpr (h.imp List.mem_of_getElem? List.mem_of_getElem?)
  unfold formattedMatrix
  split
  · rw [cellAt_writeVersion_other _ _ (not_mem_versionBlocks_of_format h21 hmem), cellAt_writeFormat h21 h177 _ _ h]
  · exact cellAt_writeFormat h21 h177 _ _ h

/-! ### MFORMAT -/

/-- The state after an MFORMAT in phase MASKED (R244). -/
def mformatDone (l : Byte) (s : State) : State :=
  complete .none
    { s with
      mx := formattedMatrix s (formatWord (levelOperand l) s.mxMask)
      mxVerinfo := verinfoOf s
      mxFormat := formatWord (levelOperand l) s.mxMask
      mxLevel := levelOperand l
      mxLevelValid := true
      phase := .final }

theorem exec_mformat_of_masked (l : Byte) (h : s.phase = .masked) : exec (.mformat l) s = .next (mformatDone l s) := by
  simp only [exec, execMformat]
  rw [if_neg (not_not_intro h)]
  rfl

/-- Settles O30: the format word is R240's BCH word under its XOR mask, and no later write of MFORMAT meets its cells. -/
theorem mformatWritesTheFormatWord : Obligations.MformatWritesTheFormatWord := by
  unfold Obligations.MformatWritesTheFormatWord
  intro l s hphase h21 h177
  refine ⟨mformatDone l s, formatWord (levelOperand l) s.mxMask, exec_mformat_of_masked l hphase, ⟨rfl, rfl, rfl, rfl⟩, rfl, rfl,
    levelOperand_eq l, rfl, ?_, ?_, fun i p hp => cellAt_formattedMatrix_format h21 h177 _ hp⟩
  · rw [formatWord_unmasked, ← levelCode_levelOperand]
    exact bchWord_div bitlen_formatGenerator _
  · rw [formatWord_unmasked, polymod_bchWord bitlen_formatGenerator]

/-- Settles O31: from version 7 on the version word is R242's BCH word, written last; below 7 only the format cells change. -/
theorem mformatWritesTheVersionWord : Obligations.MformatWritesTheVersionWord := by
  unfold Obligations.MformatWritesTheVersionWord
  intro l s hphase h21 h177
  refine ⟨mformatDone l s, exec_mformat_of_masked l hphase, fun h7 => ?_, fun h7 => ⟨if_neg h7.not_ge, fun r c h1 h2 => ?_⟩⟩
  · have hinfo : (mformatDone l s).mxVerinfo = versionWord (symbolVersion s) := if_pos h7
    have hmx : (mformatDone l s).mx = writeVersion (symbolSide s) (versionWord (symbolVersion s))
        (writeFormat (symbolSide s) (formatWord (levelOperand l) s.mxMask) s.mx) := if_pos h7
    rw [hinfo, hmx, toNat_versionWord s.mxVersion.isLt]
    refine ⟨bchWord_div bitlen_versionGenerator _, polymod_bchWord bitlen_versionGenerator _, fun i hi => ⟨?_, ?_⟩⟩
    · have hcell : (versionBlockA (symbolSide s))[i]? = some (i / 3, symbolSide s - 11 + i % 3) := by simp [versionBlockA, hi]
      exact congrArg Cell.val (cellAt_writeVersion h21 h177 _ _ (.inl hcell))
    · have hcell : (versionBlockB (symbolSide s))[i]? = some (symbolSide s - 11 + i % 3, i / 3) := by simp [versionBlockB, hi]
      exact congrArg Cell.val (cellAt_writeVersion h21 h177 _ _ (.inr hcell))
  · have hmx : (mformatDone l s).mx = writeFormat (symbolSide s) (formatWord (levelOperand l) s.mxMask) s.mx :=
      if_neg h7.not_ge
    rw [hmx, cellAt_writeFormat_other _ _ h1 h2]

end Sys2Proof.Machine
end

section
/-! SUPPORT. Each of the four penalty scorers, which read a grid as lists, gives what its rule says of the cells (R265 to R268). -/

namespace Sys2Proof.Machine

/-! ### Rule 1: runs (R265) -/

/-- What the maximal runs that begin at cell k score. -/
def runsAt (line : Nat → Bool) (n k : Nat) : Nat :=
  ((List.range (n - k + 1)).map fun len =>
    if 5 ≤ len ∧ maximalRun line n k len = true then 3 + (len - 5) else 0).sum

theorem runsRule_eq (line : Nat → Bool) (n : Nat) : runsRule line n = ((List.range n).map (runsAt line n)).sum := rfl

theorem maximalRun_iff (line : Nat → Bool) (n k len : Nat) :
    maximalRun line n k len = true ↔
      (∀ i < len, line (k + i) = line k) ∧ (k = 0 ∨ line (k - 1) ≠ line k) ∧ (k + len = n ∨ line (k + len) ≠ line k) := by
  simp [maximalRun, and_assoc]

/-- A cell of the same colour as the one before it begins no maximal run. -/
theorem runsAt_eq_zero {line : Nat → Bool} {k : Nat} (n : Nat) (hk : 0 < k) (h : line (k - 1) = line k) : runsAt line n k = 0 := by
  refine List.sum_eq_zero fun x hx => ?_
  obtain ⟨len, -, rfl⟩ := List.mem_map.mp hx
  refine if_neg fun ⟨_, hrun⟩ => ?_
  obtain ⟨-, hstart, -⟩ := (maximalRun_iff _ _ _ _).mp hrun
  exact hstart.elim hk.ne' (absurd h)

/-- A maximal run cannot go on where another one with the same first cell ends. -/
theorem maximalRun_le {line : Nat → Bool} {n k a b : Nat} (ha : maximalRun line n k a = true)
    (hb : maximalRun line n k b = true) (hbn : k + b ≤ n) : b ≤ a := by
  by_contra hlt
  obtain ⟨-, -, hend⟩ := (maximalRun_iff _ _ _ _).mp ha
  obtain ⟨hsame, -, -⟩ := (maximalRun_iff _ _ _ _).mp hb
  have hcell : line (k + a) = line k := hsame a (by omega)
  exact hend.elim (by omega) (absurd hcell)

/-- One maximal run at most begins at a cell, and it scores by its length. -/
theorem runsAt_eq_runScore {line : Nat → Bool} {n k len : Nat} (hn : k + len ≤ n) (h : maximalRun line n k len = true) :
    runsAt line n k = runScore len := by
  have hmem : len ∈ Finset.range (n - k + 1) := by
    rw [Finset.mem_range]
    omega
  have hother : ∀ b ∈ Finset.range (n - k + 1), b ≠ len →
      (if 5 ≤ b ∧ maximalRun line n k b = true then 3 + (b - 5) else 0) = 0 := by
    intro b hb hne
    refine if_neg fun ⟨_, hrun⟩ => hne ?_
    have hbn : k + b ≤ n := by
      rw [Finset.mem_range] at hb
      omega
    exact le_antisymm (maximalRun_le h hrun hbn) (maximalRun_le hrun h hn)
  calc runsAt line n k
      = if 5 ≤ len ∧ maximalRun line n k len = true then 3 + (len - 5) else 0 := Finset.sum_eq_single_of_mem len hmem hother
    _ = runScore len := by simp [h, runScore]

/-- The cells k, ..., k + len - 1 read so far are of one colour, and a run begins with them. -/
structure RunSoFar (line : Nat → Bool) (k len : Nat) : Prop where
  pos : 0 < len
  same : ∀ i < len, line (k + i) = line k
  start : k = 0 ∨ line (k - 1) ≠ line k

theorem RunSoFar.maximalRun {line : Nat → Bool} {n k len : Nat} (h : RunSoFar line k len)
    (hend : k + len = n ∨ line (k + len) ≠ line k) : maximalRun line n k len = true :=
  (maximalRun_iff _ _ _ _).mpr ⟨h.same, h.start, hend⟩

/-- The cell before the next one to read has the run's colour. -/
theorem RunSoFar.last {line : Nat → Bool} {k len : Nat} (h : RunSoFar line k len) : line (k + len - 1) = line k := by
  rw [Nat.add_sub_assoc h.pos]
  exact h.same _ (Nat.sub_lt h.pos Nat.one_pos)

theorem RunSoFar.extend {line : Nat → Bool} {k len : Nat} (h : RunSoFar line k len) (hx : line (k + len) = line k) :
    RunSoFar line k (len + 1) := by
  refine ⟨len.succ_pos, fun i hi => ?_, h.start⟩
  rcases Nat.lt_succ_iff_lt_or_eq.mp hi with hlt | rfl
  · exact h.same i hlt
  · exact hx

theorem runSoFar_one {line : Nat → Bool} {k : Nat} (hstart : k = 0 ∨ line (k - 1) ≠ line k) : RunSoFar line k 1 :=
  ⟨by decide, fun i hi => by rw [Nat.lt_one_iff.mp hi, Nat.add_zero], hstart⟩

/-- The scorer's loop: with a run begun at cell k and d cells left to read, it adds what the runs at k and from there on score. -/
theorem runsFrom_eq_sum (line : Nat → Bool) (n d : Nat) {k len : Nat} (hn : k + len + d = n) (h : RunSoFar line k len) :
    runsFrom (line k) len ((List.range' (k + len) d).map line) =
      runsAt line n k + ((List.range' (k + len) d).map (runsAt line n)).sum := by
  induction d generalizing k len with
  | zero =>
    rw [runsAt_eq_runScore (by omega) (h.maximalRun (.inl (by omega)))]
    rfl
  | succ d ih =>
    simp only [List.range'_succ, List.map_cons, List.sum_cons, runsFrom, beq_iff_eq]
    split
    · next hx =>
      have hzero : runsAt line n (k + len) = 0 :=
        runsAt_eq_zero n (Nat.add_pos_right k h.pos) (h.last.trans hx.symm)
      rw [hzero, Nat.zero_add]
      exact ih (by omega) (h.extend hx)
    · next hx =>
      rw [runsAt_eq_runScore (by omega) (h.maximalRun (.inr hx)), ih (by omega) (runSoFar_one (.inr ?_))]
      rw [h.last]
      exact Ne.symm hx

theorem lineRuns_eq (line : Nat → Bool) (n : Nat) : lineRuns ((List.range n).map line) = runsRule line n := by
  cases n with
  | zero => rfl
  | succ n =>
    rw [runsRule_eq, List.range_eq_range', List.range'_succ, List.map_cons, List.map_cons, List.sum_cons]
    exact runsFrom_eq_sum line (n + 1) n (by omega) (runSoFar_one (.inl rfl))

/-! ### Rule 2: 2 × 2 blocks (R266) -/

theorem pairBlocks_eq_sum (x y : Nat → Bool) (c d : Nat) :
    pairBlocks ((List.range' c (d + 1)).map x) ((List.range' c (d + 1)).map y) =
      ((List.range' c d).map fun c => if x c = x (c + 1) ∧ x c = y c ∧ x c = y (c + 1) then 3 else 0).sum := by
  induction d generalizing c with
  | zero => rfl
  | succ d ih =>
    have htail := ih (c + 1)
    simp only [List.range'_succ, List.map_cons, List.sum_cons, pairBlocks] at htail ⊢
    simp [htail, and_assoc]

theorem penaltyBlocks_eq_sum (row : Nat → List Bool) (r d : Nat) :
    penaltyBlocks ((List.range' r (d + 1)).map row) =
      ((List.range' r d).map fun r => pairBlocks (row r) (row (r + 1))).sum := by
  induction d generalizing r with
  | zero => rfl
  | succ d ih =>
    have htail := ih (r + 1)
    simp only [List.range'_succ, List.map_cons, List.sum_cons, penaltyBlocks] at htail ⊢
    rw [htail]

/-! ### Rule 3: finder-like sequences (R267) -/

/-- What the window that begins at cell k of a line scores. -/
def findersAt (line : Nat → Bool) (k : Nat) : Nat :=
  if finderLike ((List.range 11).map fun i => line (k + i)) then 40 else 0

theorem findersRule_eq (line : Nat → Bool) (n : Nat) :
    findersRule line n = ((List.range (n - 10)).map (findersAt line)).sum := by
  unfold findersRule findersAt finderLike
  simp only [Bool.or_eq_true, beq_iff_eq]

theorem finderLike_eq_false {w : List Bool} (h : w.length ≠ 11) : finderLike w = false := by
  unfold finderLike
  rw [Bool.or_eq_false_iff, beq_eq_false_iff_ne, beq_eq_false_iff_ne]
  constructor <;> rintro rfl <;> exact h rfl

theorem take_map_range' (line : Nat → Bool) {k d m : Nat} (h : m ≤ d) :
    ((List.range' k d).map line).take m = (List.range m).map fun i => line (k + i) := by
  refine List.ext_getElem (by simp [h]) fun i _ _ => ?_
  simp

/-- The scorer's loop: of the windows that begin at cell k or later, those inside the line begin at its d - 10 first cells. -/
theorem lineFinders_eq_sum (line : Nat → Bool) (k d : Nat) :
    lineFinders ((List.range' k d).map line) = ((List.range' k (d - 10)).map (findersAt line)).sum := by
  induction d generalizing k with
  | zero => rfl
  | succ d ih =>
    have hcons : (List.range' k (d + 1)).map line = line k :: (List.range' (k + 1) d).map line := rfl
    rw [hcons, lineFinders, ih, ← hcons]
    by_cases h : 10 ≤ d
    · rw [take_map_range' line (by omega), Nat.succ_sub h, List.range'_succ, List.map_cons, List.sum_cons]
      rfl
    · rw [finderLike_eq_false (by simp; omega), show d - 10 = 0 by omega, show d + 1 - 10 = 0 by omega]
      rfl

theorem lineFinders_eq (line : Nat → Bool) (n : Nat) : lineFinders ((List.range n).map line) = findersRule line n := by
  rw [findersRule_eq, List.range_eq_range', List.range_eq_range', lineFinders_eq_sum]

/-! ### The four rules on a grid -/

/-- The n × n grid of b as the scorer holds one: a list of rows. -/
def gridOf (b : Nat → Nat → Bool) (n : Nat) : List (List Bool) := (List.range n).map fun r => (List.range n).map (b r)

variable (b : Nat → Nat → Bool) (n : Nat)

@[simp] theorem length_gridOf : (gridOf b n).length = n := by simp [gridOf]

theorem gridColumn_gridOf {c : Nat} (hc : c < n) : gridColumn (gridOf b n) c = (List.range n).map fun r => b r c := by
  simp [gridColumn, gridOf, hc]

theorem gridLines_gridOf :
    gridLines (gridOf b n) = gridOf b n ++ (List.range n).map fun c => (List.range n).map fun r => b r c := by
  rw [gridLines, length_gridOf]
  congr 1
  exact List.map_congr_left fun c hc => gridColumn_gridOf b n (List.mem_range.mp hc)

/-- A scorer that follows a rule on every line follows it on all lines of a grid. -/
theorem sum_gridLines {score : List Bool → Nat} {rule : (Nat → Bool) → Nat → Nat}
    (h : ∀ line, score ((List.range n).map line) = rule line n) :
    ((gridLines (gridOf b n)).map score).sum = overLines rule b n := by
  rw [gridLines_gridOf, List.map_append, List.sum_append, gridOf, List.map_map, List.map_map]
  simp only [Function.comp_def, h, overLines]

theorem penaltyRuns_gridOf : penaltyRuns (gridOf b n) = overLines runsRule b n :=
  sum_gridLines b n fun line => lineRuns_eq line n

theorem penaltyFinders_gridOf : penaltyFinders (gridOf b n) = overLines findersRule b n :=
  sum_gridLines b n fun line => lineFinders_eq line n

theorem penaltyBlocks_gridOf : penaltyBlocks (gridOf b n) = blocksRule b n := by
  cases n with
  | zero => rfl
  | succ n =>
    rw [gridOf, blocksRule, Nat.add_sub_cancel, List.range_eq_range', List.range_eq_range', penaltyBlocks_eq_sum]
    simp only [pairBlocks_eq_sum]

theorem countDark_gridOf : countDark (gridOf b n) = darkCount b n := by
  simp [countDark, gridOf, darkCount, List.countP_map, Function.comp_def]

theorem absDiff_eq_natAbs (x y : Nat) : absDiff x y = ((x : Int) - (y : Int)).natAbs := by
  unfold absDiff
  omega

theorem penaltyDark_gridOf : penaltyDark (gridOf b n) = (penaltyRules b n).n4 := by
  simp [penaltyDark, countDark_gridOf, absDiff_eq_natAbs, penaltyRules]

theorem penaltyOf_gridOf : penaltyOf (gridOf b n) = penaltyRules b n := by
  rw [penaltyOf, penaltyRuns_gridOf, penaltyBlocks_gridOf, penaltyFinders_gridOf, penaltyDark_gridOf]
  rfl

end Sys2Proof.Machine
end

section
/-! SUPPORT. The grid that is scored for a mask is the one the rules speak of; and the statement about MSCORE (O32). -/

namespace Sys2Proof.Machine

variable {s : State}

/-! ### Masks -/

theorem maskOperand_eq (m : Byte) : maskOperand m = m.setWidth 3 := BitVec.eq_of_toNat_eq (by simp [maskOperand])

/-- The machine's condition is row m of R260's table. -/
theorem maskCond_iff (m : BitVec 3) (i j : Nat) : maskCond m i j = true ↔ MaskRule m.toNat i j := by
  obtain ⟨k, hk⟩ := m
  interval_cases k <;> simp [maskCond, MaskRule]

theorem cellAt_masked {side r c : Nat} (h : side ≤ 177) (mx : Matrix) (m : BitVec 3) (hr : r < side) (hc : c < side) :
    cellAt (masked mx side m) r c = maskedCell mx side m r c := by
  rw [masked, cellAt_tabulate, if_pos ⟨by omega, by omega⟩]

theorem flipVal_eq_dark (v : CellVal) : (flipVal v == .dark) = (v != .dark) := by cases v <;> rfl

theorem maskedCell_dark {side r c : Nat} (mx : Matrix) (m : BitVec 3) (hr : r < side) (hc : c < side) :
    ((maskedCell mx side m r c).val == .dark) = darkUnder mx m r c := by
  simp only [maskedCell, darkUnder, hr, hc, true_and, maskCond_iff]
  split
  · exact flipVal_eq_dark _
  · rfl

/-! ### The scored grid (R263, R264) -/

theorem scoreGrid_masked {side : Nat} (h : side ≤ 177) (mx : Matrix) (m : BitVec 3) :
    scoreGrid (masked mx side m) side = gridOf (darkUnder mx m) side := by
  refine List.map_congr_left fun r hr => List.map_congr_left fun c hc => ?_
  rw [List.mem_range] at hr hc
  rw [cellAt_masked h mx m hr hc, maskedCell_dark mx m hr hc]

/-- Score(m) is that of the rules: this hardware scores Masked(m) as it stands, by the rules of ISO_WINDOW (R9). -/
theorem scoreOf_eq (h : symbolSide s ≤ 177) (m : BitVec 3) : scoreOf s m = scoreRules s m :=
  calc scoreOf s m
      = penaltyOf (scoreGrid (masked s.mx (symbolSide s) m) (symbolSide s)) := rfl
    _ = penaltyOf (gridOf (darkUnder s.mx m) (symbolSide s)) := by rw [scoreGrid_masked h]
    _ = scoreRules s m := penaltyOf_gridOf _ _

/-! ### MSCORE -/

theorem exec_mscore_of_placed (m : Byte) (h : s.phase = .placed) :
    exec (.mscore m) s = .next (complete .none (recordPenalty (maskOperand m) (scoreOf s (maskOperand m)) s)) := by
  simp only [exec, execMscore]
  rw [if_neg (not_not_intro h)]

/-- Settles O32: the four scorers give what the rules' wording gives on any grid, and the scored grid is the rules' own. -/
theorem mscoreFollowsThePenaltyRules : Obligations.MscoreFollowsThePenaltyRules := by
  unfold Obligations.MscoreFollowsThePenaltyRules
  intro m s hphase hside
  rw [exec_mscore_of_placed m hphase, scoreOf_eq hside, maskOperand_eq]
  rfl

end Sys2Proof.Machine
end

section
/-! SUPPORT. What completion leaves of a command, whichever it is, and that no command reads the status it overwrites; and the
statement about failing commands (O43). -/

namespace Sys2Proof.Machine

variable {s t : State}

/-! ### Completion of any command -/

/-- `t` is a completion from `s`: without error, from some state the command's results were written to, or with a code, from `s`
itself (R304, R305). -/
def CompletesFrom (s t : State) : Prop := (∃ u, t = complete .none u) ∨ ∃ e, t = complete e s

theorem completesFrom_of_check {Failed Passed : Prop} {e : ErrCode} {u : State}
    (h : (Failed ∧ t = complete e s) ∨ (Passed ∧ t = complete .none u)) : CompletesFrom s t := by
  rcases h with ⟨-, ht⟩ | ⟨-, ht⟩
  · exact .inr ⟨e, ht⟩
  · exact .inl ⟨u, ht⟩

theorem exec_completesFrom {i : Instr} (h : exec i s = .next t) : CompletesFrom s t := by
  cases i with
  | nop => cases h; exact .inl ⟨_, rfl⟩
  | gfadd a b => cases h; exact .inl ⟨_, rfl⟩
  | gfmul a b => cases h; exact .inl ⟨_, rfl⟩
  | gfexp e => cases h; exact .inl ⟨_, rfl⟩
  | gfdiv a b => exact completesFrom_of_check (exec_gfdiv_cases h)
  | gfinv a => exact completesFrom_of_check (exec_gfinv_cases h)
  | gflog a => exact completesFrom_of_check (exec_gflog_cases h)
  | rsgen n => exact completesFrom_of_check (exec_rsgen_cases h)
  | rsenc k n =>
    rcases exec_rsenc_cases h with ⟨-, ht⟩ | ⟨-, ⟨-, ht⟩ | ⟨-, hrange⟩⟩
    · exact .inr ⟨_, ht⟩
    · exact .inr ⟨_, ht⟩
    · exact completesFrom_of_check hrange
  | minit v => exact completesFrom_of_check (exec_minit_cases h)
  | mplace =>
    rcases exec_mplace_cases h with ⟨-, ht⟩ | ⟨-, ⟨-, ht⟩ | ⟨-, hcount⟩⟩
    · exact .inr ⟨_, ht⟩
    · exact .inr ⟨_, ht⟩
    · exact completesFrom_of_check hcount
  | mapply m => exact completesFrom_of_check (exec_mapply_cases h)
  | mscore m => exact completesFrom_of_check (exec_mscore_cases h)
  | mselect => exact completesFrom_of_check (exec_mselect_cases h)
  | mformat l => exact completesFrom_of_check (exec_mformat_cases h)

/-- A command that completes with ERR = 1 changes the status alone. -/
theorem exec_eq_complete_of_err {i : Instr} (h : exec i s = .next t) (herr : t.err = true) :
    ∃ e, e ≠ .none ∧ t = complete e s := by
  rcases exec_completesFrom h with ⟨u, rfl⟩ | ⟨e, rfl⟩
  · cases herr
  · exact ⟨e, by simpa using herr, rfl⟩

/-! ### The status a command overwrites -/

/-- No command's checks or results read BUSY, DONE, ERR or ERRCODE, and its completion overwrites all four (R305): so a command
answers the same state whatever they were. -/
theorem exec_status (i : Instr) (pend done err : Bool) (e : ErrCode) :
    exec i { s with pend := pend, done := done, err := err, errcode := e } = exec i s := by
  cases i <;> rfl

/-- Settles O43: a failure is `complete` on the state before, so what the command reads on re-issue is what it read at first. -/
theorem failedCommandsWriteNothing : Obligations.FailedCommandsWriteNothing := by
  unfold Obligations.FailedCommandsWriteNothing
  intro i s t h herr
  obtain ⟨e, he, rfl⟩ := exec_eq_complete_of_err h herr
  refine ⟨he, ?_, ?_⟩
  · rw [complete, bne_iff_ne.mpr he]
  · exact (exec_status i true false false .none).trans h

end Sys2Proof.Machine
end

section
/-! SUPPORT. What a word write to a control register does, and what a soft reset leaves; and the statement about a write to CTRL
with SRST = 1 (O56). -/

namespace Sys2Proof.Machine

variable {s t : State}

/-! ### Word writes to the control page -/

/-- An aligned word write at the offset of a writable register has that register's effect, BUSY or not (R34, R84). -/
theorem busAccess_writeReg {a : BusAddr} {r : Reg} {w : Word} (hal : aligned a.toNat .four = true)
    (hr : regAt a.toNat = some r) (ht : writeReg r w s = some t) : busAccess (.write a .four w) s = t := by
  have hlt : a.toNat < 0x80 := by
    by_contra h
    simp [(regAt_eq_none_iff _).mpr (Nat.le_of_not_lt h)] at hr
  have hcontrol : regionOf a.toNat = .control := regionOf_eq_of_inRegion (by simp only [InRegion]; omega)
  simp [busAccess, busWrite, hal, hcontrol, hr, ht]

theorem busAccess_write_ctrl (w : Word) (s : State) : busAccess (.write 0x00004#17 .four w) s = writeCtrl w s :=
  busAccess_writeReg (r := .ctrl) rfl rfl rfl

/-! ### Soft reset (R341) -/

theorem writeCtrl_of_srst {w : Word} (h : w.getLsbD 1 = true) (s : State) : writeCtrl w s = softReset s := if_pos h

@[simp] theorem cwByte_softReset (s : State) (a : Nat) : cwByte (softReset s) a = cwByte s a := rfl

/-- Settles O56: the write is a soft reset, which is the reset state with CW's contents and the outside world put back. -/
theorem softResetRestoresEveryRegister : Obligations.SoftResetRestoresEveryRegister := by
  unfold Obligations.SoftResetRestoresEveryRegister
  intro w s hsrst
  have hreset : busAccess (.write 0x00004#17 .four w) s = softReset s := by
    rw [busAccess_write_ctrl, writeCtrl_of_srst hsrst]
  exact ⟨softReset s, hreset, rfl, cwByte_softReset s, rfl, rfl, rfl, rfl⟩

end Sys2Proof.Machine
end

section
/-! SUPPORT. The number of a word and its fields, and which words an opcode's row allows; and the statements about command words
(O1 to O4). -/

namespace Sys2Proof

/-! ### A word as a number -/

theorem toNat_append_eq {m n : Nat} (x : BitVec m) (y : BitVec n) : (x ++ y).toNat = 2 ^ n * x.toNat + y.toNat := by
  rw [BitVec.toNat_append, ← Nat.shiftLeft_add_eq_or_of_lt y.isLt, Nat.shiftLeft_eq, Nat.mul_comm]

theorem toNat_word4 (rsv fb fa opc : Byte) :
    (word4 rsv fb fa opc).toNat = 2 ^ 24 * rsv.toNat + 2 ^ 16 * fb.toNat + 2 ^ 8 * fa.toNat + opc.toNat := by
  rw [word4, toNat_append_eq, toNat_append_eq, toNat_append_eq]
  omega

/-- A word is its four fields put together (R120). -/
theorem eq_word4_fields (w : Word) : w = word4 (w.extractLsb' 24 8) (fieldFB w) (fieldFA w) (fieldOPC w) := by
  apply BitVec.eq_of_toNat_eq
  simp only [toNat_word4, fieldFB, fieldFA, fieldOPC, BitVec.extractLsb'_toNat, Nat.shiftRight_eq_div_pow]
  have := w.isLt
  omega

theorem toNat_fieldOPC (w : Word) : (fieldOPC w).toNat = w.toNat % 256 := by simp [fieldOPC]

theorem toNat_packWord (opc fa fb : Byte) : (packWord opc fa fb).toNat = 2 ^ 16 * fb.toNat + 2 ^ 8 * fa.toNat + opc.toNat := by
  rw [packWord_eq, toNat_word4, BitVec.toNat_zero]
  omega

/-! ### The zero set of an opcode (R124) -/

/-- The bit from which on a word with this opcode must be 0: the lowest bit of its zero set. -/
def zeroStart : Opcode → Nat
  | .nop | .mplace | .mselect => 8
  | .mformat => 10
  | .mapply | .mscore => 11
  | .gfinv | .gfexp | .gflog | .rsgen | .minit => 16
  | .gfadd | .gfmul | .gfdiv | .rsenc => 24

theorem zeroSet_eq (o : Opcode) : zeroSet o = BitVec.allOnes 32 <<< zeroStart o := by cases o <;> decide

theorem and_zeroSet_eq_zero_iff (w : Word) (o : Opcode) : w &&& zeroSet o = 0#32 ↔ w.toNat < 2 ^ zeroStart o := by
  rw [zeroSet_eq]
  constructor
  · intro h
    refine Nat.lt_pow_two_of_testBit _ fun i hi => ?_
    rw [BitVec.testBit_toNat]
    by_cases hlt : i < 32
    · have hbit := congrArg (fun x => x.getLsbD i) h
      simpa only [BitVec.getLsbD_and, BitVec.getLsbD_shiftLeft, BitVec.getLsbD_allOnes, BitVec.getLsbD_zero, hlt, hi.not_gt,
        show i - zeroStart o < 32 by omega, decide_true, decide_false, Bool.not_false, Bool.and_true] using hbit
    · exact w.getLsbD_of_ge i (by omega)
  · intro h
    refine BitVec.eq_of_getLsbD_eq fun i hi => ?_
    by_cases hlt : i < zeroStart o
    · simp [hlt]
    · have hbit : w.getLsbD i = false :=
        Nat.testBit_lt_two_pow (h.trans_le (Nat.pow_le_pow_right (by decide) (by omega)))
      simp [hbit]

theorem zeroFrom_eq : ∀ b : Byte, Machine.zeroFrom b.toNat = (opcodeOf b).map zeroStart := by decide +kernel

/-! ### What decode answers -/

theorem decode_of_unassigned {w : Word} (h : opcodeOf (fieldOPC w) = none) : decode w = .error .illegal := by
  simp only [decode, h]

theorem decode_of_assigned {w : Word} {o : Opcode} (h : opcodeOf (fieldOPC w) = some o) :
    decode w =
      if w.toNat < 2 ^ zeroStart o then .ok (buildInstr o (fieldFA w) (fieldFB w)) else .error .reserved := by
  simp only [decode, h, and_zeroSet_eq_zero_iff]

/-- A word that decodes has an assigned opcode and no bit of its zero set. -/
theorem decode_ok_cases {w : Word} {i : Instr} (h : decode w = .ok i) :
    ∃ o, opcodeOf (fieldOPC w) = some o ∧ w.toNat < 2 ^ zeroStart o ∧ buildInstr o (fieldFA w) (fieldFB w) = i := by
  cases ho : opcodeOf (fieldOPC w) with
  | none =>
    rw [decode_of_unassigned ho] at h
    cases h
  | some o =>
    rw [decode_of_assigned ho] at h
    split at h
    · next hz => exact ⟨o, rfl, hz, Except.ok.inj h⟩
    · cases h

theorem decode_packWord (o : Opcode) (fa fb : Byte)
    (h : 2 ^ 16 * fb.toNat + 2 ^ 8 * fa.toNat + (opcodeByte o).toNat < 2 ^ zeroStart o) :
    decode (packWord (opcodeByte o) fa fb) = .ok (buildInstr o fa fb) := by
  have ho : opcodeOf (fieldOPC (packWord (opcodeByte o) fa fb)) = some o := by
    rw [packWord_eq, fieldOPC_word4, opcodeOf_opcodeByte]
  rw [decode_of_assigned ho, toNat_packWord, if_pos h, packWord_eq, fieldFA_word4, fieldFB_word4]

/-! ### Well-formed commands are the commands of allowed words -/

theorem zeroStart_le (o : Opcode) : zeroStart o ≤ 24 := by cases o <;> decide

/-- A word with no bit of its zero set is packed from its opcode and operand fields. -/
theorem packWord_fields {w : Word} {o : Opcode} (ho : opcodeOf (fieldOPC w) = some o) (h : w.toNat < 2 ^ zeroStart o) :
    packWord (opcodeByte o) (fieldFA w) (fieldFB w) = w := by
  have hlt : w.toNat < 2 ^ 24 := h.trans_le (Nat.pow_le_pow_right (by decide) (zeroStart_le o))
  have hw := congrArg BitVec.toNat (eq_word4_fields w)
  rw [toNat_word4] at hw
  apply BitVec.eq_of_toNat_eq
  rw [toNat_packWord, opcodeByte_of_opcodeOf ho]
  omega

theorem encode_buildInstr (o : Opcode) (fa fb : Byte)
    (h : 2 ^ 16 * fb.toNat + 2 ^ 8 * fa.toNat + (opcodeByte o).toNat < 2 ^ zeroStart o) :
    WellFormed (buildInstr o fa fb) = true ∧ encode (buildInstr o fa fb) = packWord (opcodeByte o) fa fb := by
  have hzero : ∀ x : Byte, x.toNat = 0 → x = 0#8 := fun x hx => BitVec.eq_of_toNat_eq hx
  cases o <;> simp only [zeroStart] at h
  case gfadd | gfmul | gfdiv | rsenc => exact ⟨rfl, rfl⟩
  case gfinv | gfexp | gflog | rsgen | minit =>
    rw [hzero fb (by omega)]
    exact ⟨rfl, rfl⟩
  case nop | mplace | mselect =>
    rw [hzero fb (by omega), hzero fa (by omega)]
    exact ⟨rfl, rfl⟩
  case mapply | mscore =>
    rw [hzero fb (by omega)]
    exact ⟨decide_eq_true (by omega), rfl⟩
  case mformat =>
    rw [hzero fb (by omega)]
    exact ⟨decide_eq_true (by omega), rfl⟩

/-! ### The statements -/

/-- Settles O1: a command's operands leave its zero set 0, whole fields always and a mask or a level by well-formedness. -/
theorem decodeOfEncodeIsTheCommand : Obligations.DecodeOfEncodeIsTheCommand := by
  unfold Obligations.DecodeOfEncodeIsTheCommand
  intro i hwf
  cases i with
  | nop => exact decode_packWord .nop 0#8 0#8 (by decide)
  | gfadd a b => exact decode_packWord .gfadd a b (by simp only [zeroStart]; omega)
  | gfmul a b => exact decode_packWord .gfmul a b (by simp only [zeroStart]; omega)
  | gfdiv a b => exact decode_packWord .gfdiv a b (by simp only [zeroStart]; omega)
  | gfinv a => exact decode_packWord .gfinv a 0#8 (by simp only [zeroStart, BitVec.toNat_zero]; omega)
  | gfexp e => exact decode_packWord .gfexp e 0#8 (by simp only [zeroStart, BitVec.toNat_zero]; omega)
  | gflog a => exact decode_packWord .gflog a 0#8 (by simp only [zeroStart, BitVec.toNat_zero]; omega)
  | rsgen n => exact decode_packWord .rsgen n 0#8 (by simp only [zeroStart, BitVec.toNat_zero]; omega)
  | rsenc k n => exact decode_packWord .rsenc k n (by simp only [zeroStart]; omega)
  | minit v => exact decode_packWord .minit v 0#8 (by simp only [zeroStart, BitVec.toNat_zero]; omega)
  | mplace => exact decode_packWord .mplace 0#8 0#8 (by decide)
  | mapply m =>
    have hm : m.toNat ≤ 7 := of_decide_eq_true hwf
    exact decode_packWord .mapply m 0#8 (by simp only [zeroStart, BitVec.toNat_zero]; omega)
  | mscore m =>
    have hm : m.toNat ≤ 7 := of_decide_eq_true hwf
    exact decode_packWord .mscore m 0#8 (by simp only [zeroStart, BitVec.toNat_zero]; omega)
  | mselect => exact decode_packWord .mselect 0#8 0#8 (by decide)
  | mformat l =>
    have hl : l.toNat ≤ 3 := of_decide_eq_true hwf
    exact decode_packWord .mformat l 0#8 (by simp only [zeroStart, BitVec.toNat_zero]; omega)

/-- Settles O2: an allowed word is packed from its own fields, which are what its command encodes to. -/
theorem decodedWordsEncodeBack : Obligations.DecodedWordsEncodeBack := by
  unfold Obligations.DecodedWordsEncodeBack
  intro w i h
  obtain ⟨o, ho, hz, rfl⟩ := decode_ok_cases h
  have hw := packWord_fields ho hz
  have hfields : (packWord (opcodeByte o) (fieldFA w) (fieldFB w)).toNat < 2 ^ zeroStart o := by rwa [hw]
  rw [toNat_packWord] at hfields
  obtain ⟨hwf, hencode⟩ := encode_buildInstr o _ _ hfields
  exact ⟨hwf, hencode.trans hw⟩

/-- Settles O3: R124's numbers are the lowest bits of the zero sets, and a bit from there on is a quotient other than 0. -/
theorem decodingTakesTheFirstErrorThatApplies : Obligations.DecodingTakesTheFirstErrorThatApplies := by
  unfold Obligations.DecodingTakesTheFirstErrorThatApplies
  intro w
  rw [← toNat_fieldOPC, zeroFrom_eq]
  refine ⟨fun h => decode_of_unassigned (Option.map_eq_none_iff.mp h), fun k hk hbits => ?_, fun k hk hbits => ?_⟩
  · obtain ⟨o, ho, rfl⟩ := Option.map_eq_some_iff.mp hk
    rw [decode_of_assigned ho, if_neg fun hlt => hbits (Nat.div_eq_of_lt hlt)]
  · obtain ⟨o, ho, rfl⟩ := Option.map_eq_some_iff.mp hk
    exact ⟨_, by rw [decode_of_assigned ho, if_pos (Nat.lt_of_div_eq_zero (Nat.two_pow_pos _) hbits)]⟩

/-- Settles O4: the words evaluated. -/
theorem publishedWordsDecode : Obligations.PublishedWordsDecode := by
  unfold Obligations.PublishedWordsDecode
  decide

end Sys2Proof
end

section
/-! SUPPORT. The zig-zag takes the column pairs in the order of their rank and leaves out no data module; and the statement about
its order (O27). -/

namespace Sys2Proof.Machine

/-! ### The columns a pair begins with (R220) -/

/-- A right-hand column of a pair: from column 6 leftwards the pairs stand one column further to the left. -/
def RightColumn (col : Nat) : Prop := (8 ≤ col ∧ col % 2 = 0) ∨ (col ≤ 5 ∧ col % 2 = 1)

theorem mem_zigzagColumns_iff {fuel col : Nat} (hfuel : col ≤ fuel) (hcol : RightColumn col ∨ col = 6 ∨ col = 0) (x : Nat) :
    x ∈ zigzagColumns fuel col ↔ RightColumn x ∧ x ≤ col := by
  unfold RightColumn at *
  induction fuel generalizing col with
  | zero =>
    simp only [zigzagColumns, List.not_mem_nil, false_iff]
    omega
  | succ fuel ih =>
    rw [zigzagColumns]
    split_ifs with h0 h6
    · simp only [List.not_mem_nil, false_iff]
      omega
    · rw [List.mem_cons, ih (by omega) (by omega)]
      omega
    · rw [List.mem_cons, ih (by omega) (by omega)]
      omega

/-- Every column but 6 belongs to a pair. -/
theorem exists_rightColumn {side c : Nat} (hside : side % 4 = 1) (h21 : 21 ≤ side) (hc : c < side) (h6 : c ≠ 6) :
    ∃ col ∈ zigzagColumns side (side - 1), c = col ∨ c = col - 1 := by
  have hmem := mem_zigzagColumns_iff (fuel := side) (col := side - 1) (by omega) (by unfold RightColumn; omega)
  by_cases hright : RightColumn c
  · exact ⟨c, (hmem c).mpr ⟨hright, by omega⟩, .inl rfl⟩
  · unfold RightColumn at *
    exact ⟨c + 1, (hmem (c + 1)).mpr (by omega), .inr rfl⟩

theorem mem_zigzagRows_of_lt {side r : Nat} (col : Nat) (h : r < side) : r ∈ zigzagRows side col := by
  unfold zigzagRows
  split
  · exact List.mem_map.mpr ⟨side - 1 - r, List.mem_range.mpr (by omega), by omega⟩
  · exact List.mem_range.mpr h

theorem mem_zigzag_of {mx : Matrix} {side r c : Nat} (hside : side % 4 = 1) (h21 : 21 ≤ side) (hr : r < side) (hc : c < side)
    (h6 : c ≠ 6) (hfn : (cellAt mx r c).fn = false) : (r, c) ∈ zigzag mx side := by
  obtain ⟨col, hcol, hpair⟩ := exists_rightColumn hside h21 hc h6
  rw [zigzag_eq]
  refine List.mem_flatMap.mpr ⟨col, hcol, List.mem_flatMap.mpr ⟨r, mem_zigzagRows_of_lt col hr, ?_⟩⟩
  simpa [rowPair, hfn] using hpair

/-! ### Ranks -/

/-- How many columns stand to the right of column c, column 6 left out (R220). -/
def fromRight (side c : Nat) : Nat := if c < 6 then side - 2 - c else side - 1 - c

/-- The number of a column pair, counted from the right (R220). -/
def pairIndex (side col : Nat) : Nat := fromRight side col / 2

/-- When the pair comes to row r: upward pairs come to the last row first. -/
def rowTurn (side col r : Nat) : Nat := if pairIndex side col % 2 = 0 then side - 1 - r else r

section

variable {side col : Nat} (hside : side % 4 = 1) (hcol : RightColumn col) (hlt : col < side)
include hside hcol hlt

theorem fromRight_even : fromRight side col % 2 = 0 := by
  unfold RightColumn at hcol
  unfold fromRight
  split <;> omega

theorem fromRight_left : fromRight side (col - 1) = fromRight side col + 1 := by
  unfold RightColumn at hcol
  unfold fromRight
  split <;> split <;> omega

theorem visitRank_right (r : Nat) : visitRank side r col = 2 * (pairIndex side col * side + rowTurn side col r) := by
  have hrank : visitRank side r col = (pairIndex side col * side + rowTurn side col r) * 2 + fromRight side col % 2 := rfl
  rw [hrank, fromRight_even hside hcol hlt, Nat.mul_comm, Nat.add_zero]

theorem visitRank_left (r : Nat) : visitRank side r (col - 1) = 2 * (pairIndex side col * side + rowTurn side col r) + 1 := by
  have heven := fromRight_even hside hcol hlt
  have hleft := fromRight_left hside hcol hlt
  have hpair : pairIndex side (col - 1) = pairIndex side col := by
    unfold pairIndex
    omega
  have hrank : visitRank side r (col - 1) =
      (pairIndex side (col - 1) * side + rowTurn side (col - 1) r) * 2 + fromRight side (col - 1) % 2 := rfl
  rw [hrank, rowTurn, hpair, ← rowTurn, Nat.mul_comm]
  omega

/-- The bit of R220 that says which way a pair goes is the parity of its number. -/
theorem upward_iff : (col + 1) &&& 2 = 0 ↔ pairIndex side col % 2 = 0 := by
  have hbit : (col + 1) &&& 2 = ((col + 1) / 2 % 2) * 2 := by
    have h := Nat.and_two_pow (col + 1) 1
    rwa [Nat.toNat_testBit, pow_one] at h
  rw [hbit, pairIndex, fromRight]
  unfold RightColumn at hcol
  split <;> omega

theorem zigzagRows_pairwise : (zigzagRows side col).Pairwise fun r r' => rowTurn side col r < rowTurn side col r' := by
  simp only [zigzagRows, upward_iff hside hcol hlt, rowTurn]
  split
  · rw [List.pairwise_map]
    exact List.pairwise_lt_range.imp_of_mem fun ha hb hab => by
      rw [List.mem_range] at ha hb
      omega
  · exact List.pairwise_lt_range

theorem rank_of_mem_rowPair {mx : Matrix} {r : Nat} {p : Nat × Nat} (h : p ∈ rowPair mx col r) :
    visitRank side p.1 p.2 / 2 = pairIndex side col * side + rowTurn side col r := by
  obtain ⟨rfl, hc | hc, -⟩ := mem_rowPair h
  · rw [hc, visitRank_right hside hcol hlt, Nat.mul_div_cancel_left _ (by decide)]
  · rw [hc, visitRank_left hside hcol hlt]
    omega

theorem rowPair_pairwise (mx : Matrix) (r : Nat) :
    (rowPair mx col r).Pairwise fun p q => visitRank side p.1 p.2 < visitRank side q.1 q.2 := by
  refine List.Pairwise.filter _ (List.pairwise_pair.mpr ?_)
  rw [visitRank_right hside hcol hlt, visitRank_left hside hcol hlt]
  exact Nat.lt_succ_self _

end

theorem rowTurn_lt {side r : Nat} (col : Nat) (h : r < side) : rowTurn side col r < side := by
  unfold rowTurn
  split <;> omega

theorem pairIndex_lt {side a b : Nat} (hside : side % 4 = 1) (hb : RightColumn b) (h : b + 2 ≤ a) (hlt : a < side) :
    pairIndex side a < pairIndex side b := by
  unfold RightColumn at hb
  unfold pairIndex fromRight
  split <;> split <;> omega

/-- The zig-zag visits its modules in the order of their ranks, whatever the marks. -/
theorem zigzag_pairwise (mx : Matrix) {side : Nat} (hside : side % 4 = 1) (h21 : 21 ≤ side) :
    (zigzag mx side).Pairwise fun p q => visitRank side p.1 p.2 < visitRank side q.1 q.2 := by
  have hcols : ∀ col ∈ zigzagColumns side (side - 1), RightColumn col ∧ col < side := fun col h => by
    obtain ⟨hright, hle⟩ := (mem_zigzagColumns_iff (by omega) (by unfold RightColumn; omega) col).mp h
    exact ⟨hright, by omega⟩
  rw [zigzag_eq]
  refine List.pairwise_flatMap.mpr ⟨fun col hcol => List.pairwise_flatMap.mpr ⟨fun r _ => ?_, ?_⟩, ?_⟩
  · obtain ⟨hright, hlt⟩ := hcols col hcol
    exact rowPair_pairwise hside hright hlt mx r
  · obtain ⟨hright, hlt⟩ := hcols col hcol
    refine (zigzagRows_pairwise hside hright hlt).imp fun hturn p hp q hq => ?_
    have hp := rank_of_mem_rowPair hside hright hlt hp
    have hq := rank_of_mem_rowPair hside hright hlt hq
    omega
  · refine (zigzagColumns_pairwise side (side - 1)).imp_of_mem fun {a b} ha hb hleft p hp q hq => ?_
    obtain ⟨ha, halt⟩ := hcols a ha
    obtain ⟨hb, hblt⟩ := hcols b hb
    obtain ⟨r, hr, hp⟩ := List.mem_flatMap.mp hp
    obtain ⟨r', -, hq⟩ := List.mem_flatMap.mp hq
    have hp := rank_of_mem_rowPair hside ha halt hp
    have hq := rank_of_mem_rowPair hside hb hblt hq
    have hturn := rowTurn_lt a (mem_zigzagRows hr)
    have hpairs : (pairIndex side a + 1) * side ≤ pairIndex side b * side :=
      Nat.mul_le_mul_right _ (pairIndex_lt hside hb hleft halt)
    rw [Nat.succ_mul] at hpairs
    omega

/-! ### The number of data modules (R226) -/

/-- The data modules of the symbol, row by row. -/
def dataModules (mx : Matrix) (side : Nat) : List (Nat × Nat) :=
  (List.range side).flatMap fun r => ((List.range side).filter fun c => !(cellAt mx r c).fn).map fun c => (r, c)

theorem length_dataModules (mx : Matrix) (side : Nat) : (dataModules mx side).length = countData mx side := by
  simp only [dataModules, List.length_flatMap, List.length_map, ← List.countP_eq_length_filter, countData]

theorem mem_dataModules_iff (mx : Matrix) (side : Nat) (p : Nat × Nat) :
    p ∈ dataModules mx side ↔ p.1 < side ∧ p.2 < side ∧ (cellAt mx p.1 p.2).fn = false := by
  obtain ⟨r, c⟩ := p
  simp [dataModules]

theorem nodup_dataModules (mx : Matrix) (side : Nat) : (dataModules mx side).Nodup := by
  refine List.nodup_flatMap.mpr ⟨fun r _ => ?_, List.nodup_range.imp fun hne p hp hq => ?_⟩
  · exact (List.nodup_range.filter _).map fun a b hab => (Prod.mk.inj hab).2
  · obtain ⟨_, -, rfl⟩ := List.mem_map.mp hp
    obtain ⟨_, -, hq⟩ := List.mem_map.mp hq
    exact hne (Prod.mk.inj hq).1.symm

theorem countData_le (mx : Matrix) (side : Nat) : countData mx side ≤ side * side := by
  have hrow : ∀ d ∈ (List.range side).map fun r => (List.range side).countP fun c => !(cellAt mx r c).fn, d ≤ side := by
    intro d hd
    obtain ⟨r, -, rfl⟩ := List.mem_map.mp hd
    exact List.countP_le_length.trans_eq List.length_range
  simpa [countData] using List.sum_le_card_nsmul _ side hrow

/-! ### The symbol as MINIT leaves it -/

theorem sideOf_mod_four (v : Nat) : sideOf v % 4 = 1 := by
  unfold sideOf
  omega

/-- Finders, separators and the timing pattern fill column 6, which the zig-zag leaves out. -/
theorem layoutCell_column6 {v r : Nat} (h1 : 1 ≤ v) (hr : r < sideOf v) : (layoutCell v r 6).fn = true := by
  have hs := le_sideOf h1
  rw [layoutCell_fn_iff h1 hr (by omega)]
  unfold FunctionModule
  omega

theorem mem_zigzag_layout_iff {v : Nat} (h1 : 1 ≤ v) (h40 : v ≤ 40) (r c : Nat) :
    (r, c) ∈ zigzag (layout v) (sideOf v) ↔ r < sideOf v ∧ c < sideOf v ∧ (cellAt (layout v) r c).fn = false := by
  refine ⟨mem_zigzag, fun ⟨hr, hc, hfn⟩ => mem_zigzag_of (sideOf_mod_four v) (le_sideOf h1) hr hc ?_ hfn⟩
  rintro rfl
  rw [cellAt_layout h40 hr hc, layoutCell_column6 h1 hr] at hfn
  cases hfn

theorem length_zigzag_layout {v : Nat} (h1 : 1 ≤ v) (h40 : v ≤ 40) :
    (zigzag (layout v) (sideOf v)).length = countData (layout v) (sideOf v) := by
  rw [← length_dataModules]
  refine List.Perm.length_eq ((List.perm_ext_iff_of_nodup (nodup_zigzag _ _) (nodup_dataModules _ _)).mpr fun p => ?_)
  rw [mem_dataModules_iff, ← mem_zigzag_layout_iff h1 h40]

/-- Settles O27: a module's rank is its pair's number, then its row's turn, then its place in the row; and column 6, which belongs
to no pair, holds no data module. -/
theorem zigzagVisitsEachDataModuleInOrder : Obligations.ZigzagVisitsEachDataModuleInOrder := by
  unfold Obligations.ZigzagVisitsEachDataModuleInOrder
  intro v h1 h40
  exact ⟨zigzag_pairwise _ (sideOf_mod_four v) (le_sideOf h1), mem_zigzag_layout_iff h1 h40, length_zigzag_layout h1 h40⟩

end Sys2Proof.Machine
end

section
/-! SUPPORT. What any command can do, as one relation of which every statement over commands is a case analysis; what each command
leaves as it was; and the statements about completion and frames (O36 to O42, O44). -/

namespace Sys2Proof.Machine

variable {s t : State} {i : Instr}

/-! ### The effect of a command -/

/-- The GF unit's commands (40_gf.md section 2). -/
def IsGfCommand : Instr → Prop
  | .gfadd _ _ | .gfmul _ _ | .gfdiv _ _ | .gfinv _ | .gfexp _ | .gflog _ => True
  | _ => False

/-- The state MSELECT's mask is applied to: all eight totals and the selected mask's breakdown recorded (R271). -/
def scoresRecorded (s : State) : State :=
  { recordPenalty (selectedMask s) (scoreOf s (selectedMask s)) s with
    penM := Vector.ofFn fun m => BitVec.ofNat 32 (totalOf s (BitVec.ofNat 3 m.val)) }

/-- What command i does to s: it fails with a code, or its unit writes and it completes. -/
inductive CommandEffect (s : State) : Instr → State → Prop
  | fail (i : Instr) {e : ErrCode} (he : e ≠ .none) : CommandEffect s i (complete e s)
  | nop : CommandEffect s .nop (complete .none s)
  | gf {i : Instr} (hi : IsGfCommand i) (r : Byte) : CommandEffect s i (complete .none { s with gfR := r })
  | rsgen {n : Byte} (hn : 1 ≤ n.toNat ∧ n.toNat ≤ 30) :
    CommandEffect s (.rsgen n) (complete .none (setGenerator n.toNat s))
  | rsenc {k n : Byte} (hn : 1 ≤ n.toNat ∧ n.toNat ≤ 30) (hdst : rsencDst s + n.toNat ≤ 4096) :
    CommandEffect s (.rsenc k n) (rsencDone k.toNat n.toNat s)
  | minit {v : Byte} (hv : 1 ≤ v.toNat ∧ v.toNat ≤ 40) :
    CommandEffect s (.minit v) (complete .none (startSymbol v.toNat s))
  | mplace (hp : s.phase = .func) :
    CommandEffect s .mplace
      (complete .none { s with mx := placedMatrix s (mplaceSrc s) (mplaceCount s), phase := .placed })
  | mapply {m : Byte} (hp : s.phase = .placed) : CommandEffect s (.mapply m) (complete .none (applyMask (maskOperand m) s))
  | mscore {m : Byte} (hp : s.phase = .placed) :
    CommandEffect s (.mscore m) (complete .none (recordPenalty (maskOperand m) (scoreOf s (maskOperand m)) s))
  | mselect (hp : s.phase = .placed) :
    CommandEffect s .mselect (complete .none (applyMask (selectedMask s) (scoresRecorded s)))
  | mformat {l : Byte} (hp : s.phase = .masked) : CommandEffect s (.mformat l) (mformatDone l s)

theorem exec_effect (h : exec i s = .next t) : CommandEffect s i t := by
  cases i with
  | nop => cases h; exact .nop
  | gfadd a b => cases h; exact .gf (by trivial) _
  | gfmul a b => cases h; exact .gf (by trivial) _
  | gfexp e => cases h; exact .gf (by trivial) _
  | gfdiv a b =>
    rcases exec_gfdiv_cases h with ⟨-, rfl⟩ | ⟨-, rfl⟩
    · exact .fail _ nofun
    · exact .gf (by trivial) _
  | gfinv a =>
    rcases exec_gfinv_cases h with ⟨-, rfl⟩ | ⟨-, rfl⟩
    · exact .fail _ nofun
    · exact .gf (by trivial) _
  | gflog a =>
    rcases exec_gflog_cases h with ⟨-, rfl⟩ | ⟨-, rfl⟩
    · exact .fail _ nofun
    · exact .gf (by trivial) _
  | rsgen n =>
    rcases exec_rsgen_cases h with ⟨-, rfl⟩ | ⟨hn, rfl⟩
    · exact .fail _ nofun
    · exact .rsgen hn
  | rsenc k n =>
    rcases exec_rsenc_cases h with ⟨-, rfl⟩ | ⟨hn, ⟨-, rfl⟩ | ⟨-, ⟨-, rfl⟩ | ⟨⟨-, hdst⟩, rfl⟩⟩⟩
    · exact .fail _ nofun
    · exact .fail _ nofun
    · exact .fail _ nofun
    · exact .rsenc hn hdst
  | minit v =>
    rcases exec_minit_cases h with ⟨-, rfl⟩ | ⟨hv, rfl⟩
    · exact .fail _ nofun
    · exact .minit hv
  | mplace =>
    rcases exec_mplace_cases h with ⟨-, rfl⟩ | ⟨hp, ⟨-, rfl⟩ | ⟨-, ⟨-, rfl⟩ | ⟨-, rfl⟩⟩⟩
    · exact .fail _ nofun
    · exact .fail _ nofun
    · exact .fail _ nofun
    · exact .mplace hp
  | mapply m =>
    rcases exec_mapply_cases h with ⟨-, rfl⟩ | ⟨hp, rfl⟩
    · exact .fail _ nofun
    · exact .mapply hp
  | mscore m =>
    rcases exec_mscore_cases h with ⟨-, rfl⟩ | ⟨hp, rfl⟩
    · exact .fail _ nofun
    · exact .mscore hp
  | mselect =>
    rcases exec_mselect_cases h with ⟨-, rfl⟩ | ⟨hp, rfl⟩
    · exact .fail _ nofun
    · exact .mselect hp
  | mformat l =>
    rcases exec_mformat_cases h with ⟨-, rfl⟩ | ⟨hp, rfl⟩
    · exact .fail _ nofun
    · exact .mformat hp

theorem exec_total (i : Instr) (s : State) : ∃ t, exec i s = .next t := by
  cases i with
  | nop => exact ⟨_, rfl⟩
  | gfadd a b => exact ⟨_, rfl⟩
  | gfmul a b => exact ⟨_, rfl⟩
  | gfexp e => exact ⟨_, rfl⟩
  | gfdiv a b => simp only [exec, execGfdiv]; split_ifs <;> exact ⟨_, rfl⟩
  | gfinv a => simp only [exec, execGfinv]; split_ifs <;> exact ⟨_, rfl⟩
  | gflog a => simp only [exec, execGflog]; split_ifs <;> exact ⟨_, rfl⟩
  | rsgen n => simp only [exec, execRsgen]; split_ifs <;> exact ⟨_, rfl⟩
  | rsenc k n => simp only [exec, execRsenc]; split_ifs <;> exact ⟨_, rfl⟩
  | minit v => simp only [exec, execMinit]; split_ifs <;> exact ⟨_, rfl⟩
  | mplace => simp only [exec, execMplace]; split_ifs <;> exact ⟨_, rfl⟩
  | mapply m => simp only [exec, execMapply]; split_ifs <;> exact ⟨_, rfl⟩
  | mscore m => simp only [exec, execMscore]; split_ifs <;> exact ⟨_, rfl⟩
  | mselect => simp only [exec, execMselect]; split_ifs <;> exact ⟨_, rfl⟩
  | mformat l => simp only [exec, execMformat]; split_ifs <;> exact ⟨_, rfl⟩

/-- Every command ends in completion (R293). -/
theorem CommandEffect.exists_complete (h : CommandEffect s i t) : ∃ e u, t = complete e u := by
  cases h <;> exact ⟨_, _, rfl⟩

/-- Settles O44: every arm of exec answers, and what it answers is a completion. -/
theorem everyCommandCompletes : Obligations.EveryCommandCompletes := by
  unfold Obligations.EveryCommandCompletes
  intro i s
  obtain ⟨t, ht⟩ := exec_total i s
  obtain ⟨e, u, rfl⟩ := (exec_effect ht).exists_complete
  exact ⟨_, ht, rfl, rfl, by simp⟩

/-! ### What a command leaves as it was -/

/-- The parts of the state that commands write besides the completion state. -/
inductive Part where
  | cw | gen | gfR | symbol | symbolSize | maskReg | formatRegs | penalty

/-- Which commands write which part (the registers and buffers of 10_state.md R40 to R52). -/
def Writes : Part → Instr → Prop
  | .cw, .rsenc _ _ => True
  | .gen, .rsgen _ => True
  | .gen, .rsenc _ _ => True
  | .gfR, i => IsGfCommand i
  | .symbol, .minit _ => True
  | .symbol, .mplace => True
  | .symbol, .mapply _ => True
  | .symbol, .mselect => True
  | .symbol, .mformat _ => True
  | .symbolSize, .minit _ => True
  | .maskReg, .minit _ => True
  | .maskReg, .mapply _ => True
  | .maskReg, .mselect => True
  | .formatRegs, .minit _ => True
  | .formatRegs, .mformat _ => True
  | .penalty, .minit _ => True
  | .penalty, .mscore _ => True
  | .penalty, .mselect => True
  | _, _ => False

/-- No command writes the host's side (R123, R291). -/
theorem CommandEffect.hostSideKept (h : CommandEffect s i t) : HostSideKept s t := by
  cases h <;> simp [HostSideKept, rsencDone, scoresRecorded, mformatDone]

theorem CommandEffect.memoryKept (h : CommandEffect s i t) (hi : ¬Writes .cw i) : MemoryKept s t := by
  cases h
  case rsenc => exact absurd trivial hi
  all_goals exact fun _ => rfl

theorem CommandEffect.generatorKept (h : CommandEffect s i t) (hi : ¬Writes .gen i) : GeneratorKept s t := by
  cases h
  case rsgen | rsenc => exact absurd trivial hi
  all_goals exact ⟨rfl, fun _ => rfl⟩

theorem CommandEffect.gfR_kept (h : CommandEffect s i t) (hi : ¬Writes .gfR i) : t.gfR = s.gfR := by
  cases h
  case gf hgf => exact absurd hgf hi
  all_goals rfl

/-- PHASE, MX and every MX_* register are the same data. -/
structure SameSymbol (s t : State) : Prop where
  phase : t.phase = s.phase
  mx : t.mx = s.mx
  size : SymbolSizeKept s t
  mask : MaskRegKept s t
  format : FormatRegsKept s t

theorem SameSymbol.symbolKept (h : SameSymbol s t) : SymbolKept s t :=
  ⟨h.phase, fun r c => by rw [h.mx], h.size, h.mask, h.format⟩

theorem CommandEffect.sameSymbol (h : CommandEffect s i t) (hi : ¬Writes .symbol i) : SameSymbol s t := by
  cases h
  case minit | mplace | mapply | mselect | mformat => exact absurd trivial hi
  all_goals exact ⟨rfl, rfl, ⟨rfl, rfl, rfl⟩, ⟨rfl, rfl⟩, ⟨rfl, rfl, rfl, rfl⟩⟩

theorem CommandEffect.symbolSizeKept (h : CommandEffect s i t) (hi : ¬Writes .symbolSize i) : SymbolSizeKept s t := by
  cases h
  case minit => exact absurd trivial hi
  all_goals exact ⟨rfl, rfl, rfl⟩

theorem CommandEffect.maskRegKept (h : CommandEffect s i t) (hi : ¬Writes .maskReg i) : MaskRegKept s t := by
  cases h
  case minit | mapply | mselect => exact absurd trivial hi
  all_goals exact ⟨rfl, rfl⟩

theorem CommandEffect.formatRegsKept (h : CommandEffect s i t) (hi : ¬Writes .formatRegs i) : FormatRegsKept s t := by
  cases h
  case minit | mformat => exact absurd trivial hi
  all_goals exact ⟨rfl, rfl, rfl, rfl⟩

theorem CommandEffect.penaltyKept (h : CommandEffect s i t) (hi : ¬Writes .penalty i) : PenaltyKept s t := by
  cases h
  case minit | mscore | mselect => exact absurd trivial hi
  all_goals exact ⟨⟨rfl, rfl, rfl, rfl, rfl, rfl⟩, rfl⟩

/-- A command that completes with ERR = 1 leaves everything else as it was (R304). -/
theorem kept_of_err (h : exec i s = .next t) (herr : t.err = true) :
    MemoryKept s t ∧ GeneratorKept s t ∧ SymbolKept s t ∧ PenaltyKept s t ∧ t.gfR = s.gfR := by
  obtain ⟨e, he, rfl⟩ := exec_eq_complete_of_err h herr
  exact ⟨fun _ => rfl, ⟨rfl, fun _ => rfl⟩, ((CommandEffect.fail .nop he).sameSymbol id).symbolKept,
    (CommandEffect.fail .nop he).penaltyKept id, rfl⟩

/-! ### Cells -/

theorem cellAt_placedMatrix_of_fn {src count r c : Nat} (h : (cellAt s.mx r c).fn = true) :
    cellAt (placedMatrix s src count) r c = cellAt s.mx r c := by
  refine cellAt_placedMatrix_other fun b _ hb => ?_
  obtain ⟨-, -, hfn⟩ := mem_zigzag (List.mem_of_getElem? hb)
  exact Bool.noConfusion (h.symm.trans hfn)

theorem maskedCell_of_fn {mx : Matrix} {side r c : Nat} (m : BitVec 3) (h : (cellAt mx r c).fn = true) :
    maskedCell mx side m r c = cellAt mx r c := by
  simp [maskedCell, h]

theorem cellAt_masked_of_fn {mx : Matrix} {side r c : Nat} (m : BitVec 3) (h : (cellAt mx r c).fn = true) :
    cellAt (masked mx side m) r c = cellAt mx r c := by
  rw [masked, cellAt_tabulate]
  split
  · exact maskedCell_of_fn m h
  · next hout => exact (cellAt_outside hout).symm

/-- The commands that fill and mask the symbol leave its function modules alone (R219). -/
theorem CommandEffect.functionModule_kept (h : CommandEffect s i t) (hi : ¬Writes .formatRegs i) {r c : Nat}
    (hfn : (cellAt s.mx r c).fn = true) : cellAt t.mx r c = cellAt s.mx r c := by
  cases h
  case minit | mformat => exact absurd trivial hi
  case mplace => exact cellAt_placedMatrix_of_fn hfn
  case mapply => exact cellAt_masked_of_fn _ hfn
  case mselect => exact cellAt_masked_of_fn _ hfn
  all_goals rfl

theorem cellAt_formattedMatrix_other (f : BitVec 15) {r c : Nat} (h1 : (r, c) ∉ formatCopy1)
    (h2 : (r, c) ∉ formatCopy2 (symbolSide s))
    (hversion : (r, c) ∉ versionBlockA (symbolSide s) ∧ (r, c) ∉ versionBlockB (symbolSide s)) :
    cellAt (formattedMatrix s f) r c = cellAt s.mx r c := by
  unfold formattedMatrix
  split
  · rw [cellAt_writeVersion_other _ _ hversion, cellAt_writeFormat_other _ _ h1 h2]
  · exact cellAt_writeFormat_other _ _ h1 h2

/-! ### The statements -/

/-- Settles O36: these commands reach GF_R at most. -/
theorem gfCommandsAndNopFrame : Obligations.GfCommandsAndNopFrame := by
  unfold Obligations.GfCommandsAndNopFrame
  intro i s t hi h
  have heffect := exec_effect h
  have hgfR : i = .nop ∨ t.err = true → t.gfR = s.gfR := by
    rintro (rfl | herr)
    · exact heffect.gfR_kept id
    · obtain ⟨-, -, -, -, hkept⟩ := kept_of_err h herr
      exact hkept
  rcases hi with rfl | ⟨a, b, rfl⟩ | ⟨a, b, rfl⟩ | ⟨a, b, rfl⟩ | ⟨a, rfl⟩ | ⟨e, rfl⟩ | ⟨a, rfl⟩
  all_goals exact ⟨heffect.hostSideKept, heffect.memoryKept id, heffect.generatorKept id,
    (heffect.sameSymbol id).symbolKept, heffect.penaltyKept id, hgfR⟩

/-- Settles O37: a failed RSGEN leaves GEN too, and no part but GEN is RSGEN's. -/
theorem rsgenFrame : Obligations.RsgenFrame := by
  unfold Obligations.RsgenFrame
  intro n s t h
  have heffect := exec_effect h
  refine ⟨heffect.hostSideKept, heffect.memoryKept id, (heffect.sameSymbol id).symbolKept, heffect.penaltyKept id,
    heffect.gfR_kept id, fun herr => ?_⟩
  obtain ⟨-, hgen, -⟩ := kept_of_err h herr
  exact hgen

/-- Settles O38: the one write to CW is of n bytes at LRS_DST. -/
theorem rsencFrame : Obligations.RsencFrame := by
  unfold Obligations.RsencFrame
  intro k n s t h
  have heffect := exec_effect h
  refine ⟨heffect.hostSideKept, (heffect.sameSymbol id).symbolKept, heffect.penaltyKept id, heffect.gfR_kept id,
    fun a ha => ?_, fun herr => ?_⟩
  · cases heffect with
    | fail => rfl
    | gf hi => exact hi.elim
    | rsenc => rw [cwByte_rsencDone, if_neg ha]
  · obtain ⟨hmem, hgen, -⟩ := kept_of_err h herr
    exact ⟨hmem, hgen⟩

/-- Settles O39: MINIT writes the symbol and the scores, and a failed one nothing. -/
theorem minitFrame : Obligations.MinitFrame := by
  unfold Obligations.MinitFrame
  intro v s t h
  have heffect := exec_effect h
  refine ⟨heffect.hostSideKept, heffect.memoryKept id, heffect.generatorKept id, heffect.gfR_kept id, fun herr => ?_⟩
  obtain ⟨-, -, hsymbol, hpen, -⟩ := kept_of_err h herr
  exact ⟨hsymbol, hpen⟩

/-- Settles O40: the zig-zag and the mask reach data modules only. -/
theorem mplaceAndMapplyFrame : Obligations.MplaceAndMapplyFrame := by
  unfold Obligations.MplaceAndMapplyFrame
  intro i s t hi h
  have heffect := exec_effect h
  have hmask : i = .mplace → MaskRegKept s t := by
    rintro rfl
    exact heffect.maskRegKept id
  have herror : t.err = true → SymbolKept s t := fun herr => by
    obtain ⟨-, -, hsymbol, -⟩ := kept_of_err h herr
    exact hsymbol
  rcases hi with rfl | ⟨m, rfl⟩
  all_goals exact ⟨heffect.hostSideKept, heffect.memoryKept id, heffect.generatorKept id,
    heffect.symbolSizeKept id, heffect.formatRegsKept id, heffect.penaltyKept id, heffect.gfR_kept id, hmask,
    exec_mark_kept (by simp) h, fun r c => heffect.functionModule_kept id, herror⟩

/-- Settles O41: the two words are written to the cells that the statement lists. -/
theorem mformatFrame : Obligations.MformatFrame := by
  unfold Obligations.MformatFrame
  intro l s t h
  have heffect := exec_effect h
  refine ⟨heffect.hostSideKept, heffect.memoryKept id, heffect.generatorKept id, heffect.symbolSizeKept id,
    heffect.maskRegKept id, heffect.penaltyKept id, heffect.gfR_kept id, exec_mark_kept (by simp) h,
    fun r c h1 h2 hversion => ?_, fun herr => ?_⟩
  · cases heffect with
    | gf hgf => exact hgf.elim
    | fail => rfl
    | mformat =>
      refine cellAt_formattedMatrix_other _ h1 h2 (not_or.mp ?_)
      rw [mem_versionBlocks_iff]
      rintro ⟨j, hj, hcell⟩
      exact hcell.elim (hversion j hj).1 (hversion j hj).2
  · obtain ⟨-, -, hsymbol, -⟩ := kept_of_err h herr
    exact hsymbol

/-- Settles O42: scoring reads the symbol, and of the two commands MSELECT alone applies a mask. -/
theorem mscoreAndMselectFrame : Obligations.MscoreAndMselectFrame := by
  unfold Obligations.MscoreAndMselectFrame
  intro i s t hi h
  have heffect := exec_effect h
  have hscore : i ≠ .mselect → SymbolKept s t ∧ t.penM = s.penM := by
    rcases hi with rfl | ⟨m, rfl⟩
    · exact fun hne => absurd rfl hne
    · intro _
      refine ⟨(heffect.sameSymbol id).symbolKept, ?_⟩
      cases heffect with
      | gf hgf => exact hgf.elim
      | fail => rfl
      | mscore => rfl
  have herror : t.err = true → SymbolKept s t ∧ PenaltyKept s t := fun herr => by
    obtain ⟨-, -, hsymbol, hpen, -⟩ := kept_of_err h herr
    exact ⟨hsymbol, hpen⟩
  rcases hi with rfl | ⟨m, rfl⟩
  all_goals exact ⟨heffect.hostSideKept, heffect.memoryKept id, heffect.generatorKept id,
    heffect.symbolSizeKept id, heffect.formatRegsKept id, heffect.gfR_kept id, hscore, exec_mark_kept (by simp) h,
    fun r c => heffect.functionModule_kept id, herror⟩

end Sys2Proof.Machine
end

section
/-! SUPPORT. What one host access and one step can do, as two relations of which every statement over steps is a case analysis;
and the statements about single steps, completion, PHASE and the register invariants (O5 to O9, O46, O58). -/

namespace Sys2Proof.Machine

variable {s t : State}

/-! ### The effect of a host access -/

/-- The registers that the host's accesses write, but for those a command's acceptance writes. -/
def hostRegisters (irqen done ovr accerr : Bool) (rsSrc rsDst plSrc plCount : CwOffset) (busData : Word) (s : State) : State :=
  { s with
    irqen := irqen, done := done, ovr := ovr, accerr := accerr, rsSrc := rsSrc, rsDst := rsDst, plSrc := plSrc,
    plCount := plCount, busData := busData }

/-- What access op does to s (20_memory.md R80 to R92). No access sets DONE. -/
inductive BusEffect (op : BusOp) (s : State) : State → Prop
  | reset (h : IsReset (.bus op)) : BusEffect op s (softReset s)
  | host (irqen done ovr accerr : Bool) (rsSrc rsDst plSrc plCount : CwOffset) (busData : Word)
    (hdone : done = true → s.done = true) :
    BusEffect op s (hostRegisters irqen done ovr accerr rsSrc rsDst plSrc plCount busData s)
  | accept (w : Word) (hp : s.pend = false) : BusEffect op s (acceptCommand w s)
  | memory {a : Nat} {vs : List Byte} (h : a + vs.length ≤ 4096) :
    BusEffect op s { s with cw := Memory.writeBlock a vs s.cw }

theorem add_sizeBytes_le {a m : Nat} {n : Size} (h : a < 4 * m) (hal : a % sizeBytes n = 0) : a + sizeBytes n ≤ 4 * m := by
  cases n <;> simp only [sizeBytes] at hal ⊢ <;> omega

theorem regAt_eq_ctrl {a : Nat} (hal : a % 4 = 0) (h : regAt a = some .ctrl) : a = 4 := by
  have hlt : a < 0x80 := by
    by_contra hge
    rw [(regAt_eq_none_iff a).mpr (by omega)] at h
    cases h
  have hctrl : ∀ k < 32, regAt (4 * k) = some .ctrl → k = 1 := by decide
  obtain ⟨k, rfl⟩ := Nat.dvd_of_mod_eq_zero hal
  rw [hctrl k (by omega) h]

/-- What a write that is not rejected does, the register named by its offset. -/
theorem busWrite_register_cases {a : Nat} {n : Size} {w : Word} (h : busWrite a n w s = some t) :
    (n = .four ∧ a % 4 = 0 ∧ ∃ r, regAt a = some r ∧ writeReg r w s = some t) ∨
    (0x01000 ≤ a ∧ a + sizeBytes n ≤ 0x02000 ∧
      t = { s with cw := Memory.writeBlock (a - 0x01000) (splitBytes n w) s.cw }) := by
  have hr := inRegion_regionOf a
  have hal : a % sizeBytes n = 0 := by
    by_contra hmis
    simp [busWrite, aligned_iff, hmis] at h
  cases hregion : regionOf a with rw [hregion] at hr
  | control =>
    have hfour : n = .four := by
      by_contra hne
      simp [busWrite, hregion, hne] at h
    subst hfour
    exact .inl ⟨rfl, hal, Option.bind_eq_some_iff.mp (by simpa [busWrite, aligned_iff, hal, hregion] using h)⟩
  | cw =>
    refine .inr ⟨hr.1, add_sizeBytes_le (m := 0x800) hr.2 hal, ?_⟩
    simp only [busWrite, aligned_iff, hal, hregion] at h
    grind
  | _ => simp [busWrite, hregion] at h

/-- A word write to a register (R36 to R43, R291, R292). -/
theorem writeReg_effect {a : BusAddr} {r : Reg} {w : Word} (hal : a.toNat % 4 = 0) (hr : regAt a.toNat = some r)
    (h : writeReg r w s = some t) : BusEffect (.write a .four w) s t := by
  cases r with
  | ctrl =>
    cases h
    have ha : a = 0x00004#17 := BitVec.eq_of_toNat_eq (regAt_eq_ctrl hal hr)
    by_cases hsrst : w.getLsbD 1 = true
    · rw [writeCtrl_of_srst hsrst]
      exact .reset (.inr ⟨w, hsrst, by rw [ha]⟩)
    · rw [writeCtrl, if_neg hsrst]
      exact .host _ s.done s.ovr s.accerr s.rsSrc s.rsDst s.plSrc s.plCount s.busData id
  | status =>
    cases h
    exact .host s.irqen _ _ _ s.rsSrc s.rsDst s.plSrc s.plCount s.busData fun hdone => (Bool.and_eq_true_iff.mp hdone).1
  | cmd =>
    cases h
    by_cases hp : s.pend = true
    · rw [writeCmd, if_pos hp]
      exact .host s.irqen s.done true s.accerr s.rsSrc s.rsDst s.plSrc s.plCount s.busData id
    · rw [writeCmd, if_neg hp]
      exact .accept w (Bool.eq_false_of_not_eq_true hp)
  | rsSrc =>
    cases h
    exact .host s.irqen s.done s.ovr s.accerr _ s.rsDst s.plSrc s.plCount s.busData id
  | rsDst =>
    cases h
    exact .host s.irqen s.done s.ovr s.accerr s.rsSrc _ s.plSrc s.plCount s.busData id
  | plSrc =>
    cases h
    exact .host s.irqen s.done s.ovr s.accerr s.rsSrc s.rsDst _ s.plCount s.busData id
  | plCount =>
    cases h
    exact .host s.irqen s.done s.ovr s.accerr s.rsSrc s.rsDst s.plSrc _ s.busData id
  | _ => simp [writeReg] at h

theorem busAccess_effect (op : BusOp) (s : State) : BusEffect op s (busAccess op s) := by
  cases op with
  | read a n =>
    rw [busAccess]
    split
    · exact .host s.irqen s.done s.ovr s.accerr s.rsSrc s.rsDst s.plSrc s.plCount _ id
    · exact .host s.irqen s.done s.ovr true s.rsSrc s.rsDst s.plSrc s.plCount 0#32 id
  | write a n w =>
    rw [busAccess]
    split
    · next t ht =>
      rcases busWrite_register_cases ht with ⟨rfl, hal, r, hr, hw⟩ | ⟨hlo, hhi, rfl⟩
      · exact writeReg_effect hal hr hw
      · exact .memory (by rw [length_splitBytes]; omega)
    · exact .host s.irqen s.done s.ovr true s.rsSrc s.rsDst s.plSrc s.plCount s.busData id

/-! ### The effect of a step -/

/-- The state after a reset, with these contents of CW and this outside world (R340, R341). -/
def resetWith (cw : Memory) (epoch : Nat) (inputs : List Input) (busData : Word) : State :=
  { State.reset with cw := cw, cwEpoch := epoch, inputs := inputs, busData := busData }

/-- What a step does to s: the pending command's effect or its decoding error, a reset, or a host access; `rest` is what is left
of the inputs. A step that takes no input is the engine's, or finds no command pending. -/
inductive StepEffect (s : State) : State → Prop
  | command (rest : List Input) {i : Instr} {t : State} (hp : s.pend = true) (hi : decode s.lword = .ok i)
    (h : CommandEffect (takeInput rest s) i t) : StepEffect s t
  | undecodable (rest : List Input) {e : ErrCode} (he : e ≠ .none) : StepEffect s (complete e (takeInput rest s))
  | reset {x : Input} {rest : List Input} (hin : s.inputs = x :: rest) (hx : IsReset x) {cw : Memory}
    (hcw : cw = s.cw ∨ cw = []) (epoch : Nat) : StepEffect s (resetWith cw epoch rest s.busData)
  | host (rest : List Input) (hin : s.pend = true → ∃ x, s.inputs = x :: rest) (irqen done ovr accerr : Bool)
    (rsSrc rsDst plSrc plCount : CwOffset) (busData : Word) (hdone : done = true → s.done = true) :
    StepEffect s (hostRegisters irqen done ovr accerr rsSrc rsDst plSrc plCount busData (takeInput rest s))
  | accept (rest : List Input) (w : Word) (hp : s.pend = false) : StepEffect s (acceptCommand w (takeInput rest s))
  | memory (rest : List Input) (hin : s.pend = true → ∃ x, s.inputs = x :: rest) {a : Nat} {vs : List Byte}
    (h : a + vs.length ≤ 4096) : StepEffect s { takeInput rest s with cw := Memory.writeBlock a vs s.cw }

theorem stepEffect_of_engineStep (rest : List Input) (hp : s.pend = true) (h : engineStep (takeInput rest s) = .next t) :
    StepEffect s t := by
  rcases engineStep_cases h with ⟨i, hi, hexec⟩ | ⟨e, -, rfl⟩
  · exact .command rest hp hi (exec_effect hexec)
  · exact .undecodable rest (by cases e <;> nofun)

theorem stepEffect_of_bus {x : Input} {rest : List Input} (hin : s.inputs = x :: rest) {op : BusOp}
    (hx : IsReset (.bus op) → IsReset x) : StepEffect s (busAccess op (takeInput rest s)) := by
  have heffect := busAccess_effect op (takeInput rest s)
  generalize busAccess op (takeInput rest s) = t at heffect
  cases heffect with
  | reset h => exact .reset hin (hx h) (.inl rfl) s.cwEpoch
  | host irqen done ovr accerr rsSrc rsDst plSrc plCount busData hdone =>
    exact .host rest (fun _ => ⟨x, hin⟩) _ _ _ _ _ _ _ _ _ hdone
  | accept w hp => exact .accept rest w hp
  | memory h => exact .memory rest (fun _ => ⟨x, hin⟩) h

theorem stepEffect_idle (rest : List Input) (hp : s.pend = false) : StepEffect s (takeInput rest s) :=
  .host rest (by simp [hp]) s.irqen s.done s.ovr s.accerr s.rsSrc s.rsDst s.plSrc s.plCount s.busData id

theorem step_effect (h : step s = .next t) : StepEffect s t := by
  rcases step_cases h with ⟨hin, h⟩ | ⟨x, rest, hin, h⟩
  · rcases engineTurn_cases h with ⟨hp, h⟩ | ⟨hp, rfl⟩
    · exact stepEffect_of_engineStep s.inputs hp h
    · exact stepEffect_idle t.inputs hp
  · cases x with
    | bus op =>
      cases h
      exact stepEffect_of_bus hin id
    | wait =>
      rw [inputStep] at h
      split at h
      · next hp => exact stepEffect_of_engineStep s.inputs hp h
      · cases h
        refine stepEffect_of_bus hin fun hreset => ?_
        rcases hreset with h | ⟨w, -, h⟩ <;> cases h
    | engineTurn =>
      rcases engineTurn_cases h with ⟨hp, h⟩ | ⟨hp, rfl⟩
      · exact stepEffect_of_engineStep rest hp h
      · exact stepEffect_idle rest hp
    | hardReset =>
      cases h
      exact .reset hin (.inl rfl) (.inr rfl) (s.cwEpoch + 1)

/-! ### Single steps -/

theorem engineStep_of_decode {i : Instr} (h : decode s.lword = .ok i) : engineStep s = exec i s := by
  simp only [engineStep, h]

theorem engineTurn_of_pend (h : s.pend = true) : engineTurn s = engineStep s := if_pos h

/-- Settles O5: the three places where the engine comes to run. -/
theorem stepRunsTheDecodedCommand : Obligations.StepRunsTheDecodedCommand := by
  unfold Obligations.StepRunsTheDecodedCommand
  intro s i rest hp hi
  refine ⟨fun hin => ?_, fun hin => ?_, fun hin => ?_⟩
  · have hi' : decode (takeInput rest s).lword = .ok i := hi
    simp only [step, hin, inputStep]
    rw [engineTurn_of_pend (s := takeInput rest s) hp, engineStep_of_decode hi']
  · simp only [step, hin]
    rw [engineTurn_of_pend hp, engineStep_of_decode hi]
  · simp only [step, hin, inputStep]
    rw [if_pos hp, engineStep_of_decode hi]

/-- Settles O6: the code is the decoder's. -/
theorem stepCompletesUndecodableWords : Obligations.StepCompletesUndecodableWords := by
  unfold Obligations.StepCompletesUndecodableWords
  intro s rest e hp hin he
  have he' : decode (takeInput rest s).lword = .error e := he
  refine ⟨decodeErrCode e, by cases e <;> simp [decodeErrCode], ?_⟩
  simp only [step, hin, inputStep]
  rw [engineTurn_of_pend (s := takeInput rest s) hp]
  simp only [engineStep, he']
  cases e <;> rfl

theorem busAccess_write_cmd (w : Word) (s : State) : busAccess (.write 0x00010#17 .four w) s = writeCmd w s :=
  busAccess_writeReg (r := .cmd) rfl rfl rfl

/-- Settles O7: acceptance takes the operand copies, and the turn after it runs the command. -/
theorem issuedCommandRunsInItsTurn : Obligations.IssuedCommandRunsInItsTurn := by
  unfold Obligations.IssuedCommandRunsInItsTurn
  intro s w i rest hp hi hin
  have hstep : step s = .next (acceptCommand w (takeInput (.engineTurn :: rest) s)) := by
    have hidle : writeCmd w (takeInput (.engineTurn :: rest) s) = acceptCommand w (takeInput (.engineTurn :: rest) s) :=
      if_neg (by simp [hp])
    simp only [step, hin, inputStep]
    rw [busAccess_write_cmd, hidle]
  have hrun := stepRunsTheDecodedCommand
  unfold Obligations.StepRunsTheDecodedCommand at hrun
  exact ⟨_, hstep, (hrun _ i rest rfl hi).1 rfl⟩

theorem engineStep_total (s : State) : ∃ t, engineStep s = .next t := by
  unfold engineStep
  split
  · exact exec_total _ s
  · exact ⟨_, rfl⟩

theorem engineTurn_total (s : State) : ∃ t, engineTurn s = .next t := by
  unfold engineTurn
  split
  · exact engineStep_total s
  · exact ⟨_, rfl⟩

theorem step_total (s : State) : ∃ t, step s = .next t := by
  unfold step
  split
  · exact engineTurn_total s
  · next x rest _ =>
    cases x with
    | bus op => exact ⟨_, rfl⟩
    | wait =>
      rw [inputStep]
      split
      · exact engineStep_total s
      · exact ⟨_, rfl⟩
    | engineTurn => exact engineTurn_total _
    | hardReset => exact ⟨_, rfl⟩

/-- Settles O8: no agent's step stops. -/
theorem stepAlwaysGivesANextState : Obligations.StepAlwaysGivesANextState := by
  unfold Obligations.StepAlwaysGivesANextState
  exact step_total

/-! ### Completion -/

theorem run_succ_of_step {M : Host.Core} {s t : M.State} {k : Nat} (h : M.step s = .next t) :
    M.run (k + 1) s = M.run k t := by
  rw [Host.Core.run, h]

theorem run_one_of_step (h : step s = .next t) : Host.Core.run Sys2Proof.core 1 s = .next t :=
  run_succ_of_step (M := Sys2Proof.core) h

/-- A step with a command pending completes it, is a reset that abandons it, or takes an input and leaves it pending. -/
theorem step_pending_cases (h : step s = .next t) (hp : s.pend = true) :
    (t.pend = false ∧ t.done = true) ∨ (t.pend = false ∧ ∃ x ∈ s.inputs.take 1, IsReset x) ∨
    (t.pend = true ∧ ∃ x, s.inputs = x :: t.inputs) := by
  cases step_effect h with
  | command rest _ _ heffect =>
    obtain ⟨e, u, rfl⟩ := heffect.exists_complete
    exact .inl ⟨rfl, rfl⟩
  | undecodable => exact .inl ⟨rfl, rfl⟩
  | reset hin hx => exact .inr (.inl ⟨rfl, _, by simp [hin], hx⟩)
  | host rest hin => exact .inr (.inr ⟨hp, hin hp⟩)
  | accept rest w hidle => exact Bool.noConfusion (hp.symm.trans hidle)
  | memory rest hin => exact .inr (.inr ⟨hp, hin hp⟩)

/-- Settles O9: a step with a command pending ends it or takes an input, and with no input left the engine ends it. -/
theorem pendingCommandsComplete : Obligations.PendingCommandsComplete := by
  unfold Obligations.PendingCommandsComplete
  intro s hp
  generalize hn : s.inputs.length = n
  induction n generalizing s with
  | zero =>
    obtain ⟨t, ht⟩ := step_total s
    have hnil := List.length_eq_zero_iff.mp hn
    rcases step_pending_cases ht hp with ⟨hidle, hdone⟩ | ⟨-, x, hx, -⟩ | ⟨-, x, hx⟩
    · exact ⟨1, t, le_rfl, run_one_of_step ht, hidle, .inl hdone⟩
    · simp [hnil] at hx
    · simp [hnil] at hx
  | succ n ih =>
    obtain ⟨t, ht⟩ := step_total s
    rcases step_pending_cases ht hp with ⟨hidle, hdone⟩ | ⟨hidle, x, hx, hreset⟩ | ⟨hpend, x, hx⟩
    · exact ⟨1, t, by omega, run_one_of_step ht, hidle, .inl hdone⟩
    · exact ⟨1, t, by omega, run_one_of_step ht, hidle, .inr ⟨x, hx, hreset⟩⟩
    · have hlen : t.inputs.length = n := by simpa [hx] using hn
      obtain ⟨k, u, hk, hrun, hidle, hend⟩ := ih t hpend hlen
      refine ⟨k + 1, u, by omega, (run_succ_of_step (M := Sys2Proof.core) ht).trans hrun, hidle,
        hend.imp_right fun ⟨y, hy, hreset⟩ => ⟨y, ?_, hreset⟩⟩
      rw [hx, List.take_succ_cons]
      exact List.mem_cons_of_mem _ hy

/-! ### PHASE -/

theorem CommandEffect.phase {i : Instr} (h : CommandEffect s i t) : t.phase = s.phase ∨ ConstructionMove i s.phase t.phase := by
  cases h with
  | minit => exact .inr (.inl ⟨rfl, _, rfl⟩)
  | mplace hp => exact .inr (.inr (.inl ⟨hp, rfl, rfl⟩))
  | mapply hp => exact .inr (.inr (.inr (.inl ⟨hp, rfl, .inr ⟨_, rfl⟩⟩)))
  | mselect hp => exact .inr (.inr (.inr (.inl ⟨hp, rfl, .inl rfl⟩)))
  | mformat hp => exact .inr (.inr (.inr (.inr ⟨hp, rfl, _, rfl⟩)))
  | _ => exact .inl rfl

/-- Settles O46: PHASE is written by the construction commands and by a reset. -/
theorem phaseMovesOnlyAlongTheConstruction : Obligations.PhaseMovesOnlyAlongTheConstruction := by
  unfold Obligations.PhaseMovesOnlyAlongTheConstruction
  refine ⟨fun i s t h => (exec_effect h).phase, fun s t h => ?_⟩
  cases step_effect h with
  | command rest hp hi heffect => exact heffect.phase.imp_right fun hmove => .inl ⟨hp, _, hi, hmove⟩
  | reset hin hx => exact .inr (.inr ⟨rfl, _, _, hin, hx⟩)
  | _ => exact .inl rfl

/-! ### The register invariants -/

theorem CommandEffect.controlInv {i : Instr} (h : CommandEffect s i t) (hinv : ControlInv s) : ControlInv t := by
  obtain ⟨hword, -, -⟩ := hinv
  obtain ⟨-, -, -, hcmd, -, -, -, -, hlword, -⟩ := h.hostSideKept
  obtain ⟨e, u, rfl⟩ := h.exists_complete
  exact ⟨hlword.trans (hword.trans hcmd.symm), nofun, by simp⟩

theorem generatorInv_of_generator {n : Byte} (hn : n.toNat ≤ 30) (hdeg : t.genDeg = BitVec.ofNat 8 n.toNat)
    (hgen : t.gen = generator n.toNat) : GeneratorInv t := by
  rw [GeneratorInv, hdeg, hgen, BitVec.ofNat_toNat, BitVec.setWidth_eq]
  exact ⟨hn, rfl⟩

theorem CommandEffect.generatorInv {i : Instr} (h : CommandEffect s i t) (hinv : GeneratorInv s) : GeneratorInv t := by
  cases h with
  | rsgen hn => exact generatorInv_of_generator hn.2 rfl rfl
  | rsenc hn => exact generatorInv_of_generator hn.2 rfl rfl
  | _ => exact hinv

theorem ofNat_penaltyTotal (p : Penalty) :
    BitVec.ofNat 32 (penaltyTotal p) =
      BitVec.ofNat 32 p.n1 + BitVec.ofNat 32 p.n2 + BitVec.ofNat 32 p.n3 + BitVec.ofNat 32 p.n4 := by
  simp only [penaltyTotal, BitVec.ofNat_add]

theorem CommandEffect.penaltyInv {i : Instr} (h : CommandEffect s i t) (hinv : PenaltyInv s) : PenaltyInv t := by
  cases h with
  | minit => rfl
  | mscore => exact ofNat_penaltyTotal _
  | mselect => exact ofNat_penaltyTotal _
  | _ => exact hinv

theorem CommandEffect.memoryInv {i : Instr} (h : CommandEffect s i t) (hinv : MemoryInv s) : MemoryInv t := by
  cases h with
  | rsenc hn hdst => exact Memory.wf_writeBlock _ (by rwa [rsencResult, length_remainder]) hinv
  | _ => exact hinv

theorem StepEffect.controlInv (h : StepEffect s t) (hinv : ControlInv s) : ControlInv t := by
  obtain ⟨hword, hpending, herr⟩ := hinv
  cases h with
  | command rest _ _ heffect => exact heffect.controlInv ⟨hword, hpending, herr⟩
  | undecodable rest he => exact ⟨hword, nofun, by simp⟩
  | reset => exact ⟨rfl, nofun, by simp [resetWith, State.reset]⟩
  | host rest hin irqen done ovr accerr rsSrc rsDst plSrc plCount busData hdone =>
    refine ⟨hword, fun hp => ?_, herr⟩
    obtain ⟨hnot, hstatus⟩ := hpending hp
    exact ⟨Bool.eq_false_of_not_eq_true fun hd => Bool.noConfusion (hnot.symm.trans (hdone hd)), hstatus⟩
  | accept => exact ⟨rfl, fun _ => ⟨rfl, rfl, rfl⟩, by simp⟩
  | memory => exact ⟨hword, hpending, herr⟩

theorem StepEffect.generatorInv (h : StepEffect s t) (hinv : GeneratorInv s) : GeneratorInv t := by
  cases h with
  | command rest _ _ heffect => exact heffect.generatorInv hinv
  | reset => exact ⟨Nat.zero_le _, rfl⟩
  | _ => exact hinv

theorem StepEffect.penaltyInv (h : StepEffect s t) (hinv : PenaltyInv s) : PenaltyInv t := by
  cases h with
  | command rest _ _ heffect => exact heffect.penaltyInv hinv
  | reset => rfl
  | _ => exact hinv

theorem StepEffect.memoryInv (h : StepEffect s t) (hinv : MemoryInv s) : MemoryInv t := by
  cases h with
  | command rest _ _ heffect => exact heffect.memoryInv hinv
  | reset hin hx hcw =>
    rcases hcw with rfl | rfl
    · exact hinv
    · rfl
  | memory rest hin hlen => exact Memory.wf_writeBlock _ hlen hinv
  | _ => exact hinv

/-- Settles O58: each invariant is kept by every command, by every access and by a reset. -/
theorem stepKeepsTheRegisterInvariants : Obligations.StepKeepsTheRegisterInvariants := by
  unfold Obligations.StepKeepsTheRegisterInvariants
  intro s t h
  have heffect := step_effect h
  exact ⟨heffect.controlInv, heffect.generatorInv, heffect.penaltyInv, heffect.memoryInv⟩

end Sys2Proof.Machine
end

section
/-! SUPPORT. What each construction command leaves in the cells of the symbol; and the statements about the symbol's invariants
(O57, O59, O60). -/

namespace Sys2Proof.Machine

variable {s t : State} {i : Instr}

/-! ### The size registers and the marks -/

/-- MINIT's size registers hold the version's numbers (R210, R226). -/
theorem startSymbol_size {v : Nat} (h40 : v ≤ 40) :
    symbolVersion (startSymbol v s) = v ∧ symbolSide (startSymbol v s) = sideOf v ∧
      symbolDatamod (startSymbol v s) = countData (layout v) (sideOf v) := by
  have hside := sideOf_le h40
  have hcount : countData (layout v) (sideOf v) ≤ 177 * 177 := (countData_le _ _).trans (Nat.mul_le_mul hside hside)
  simp only [symbolVersion, symbolSide, symbolDatamod, startSymbol_mxVersion, startSymbol_mxSize, startSymbol_mxDatamod,
    BitVec.toNat_ofNat]
  omega

theorem symbolInv_startSymbol {v : Nat} (h1 : 1 ≤ v) (h40 : v ≤ 40) (s : State) : SymbolInv (startSymbol v s) := by
  obtain ⟨hversion, hside, hcount⟩ := startSymbol_size (s := s) h40
  refine ⟨nofun, fun _ => ?_⟩
  rw [hversion, hside, hcount]
  exact ⟨h1, h40, rfl, rfl, fun _ _ => rfl⟩

/-- The invariant speaks of the marks and the size registers alone. -/
theorem SymbolInv.of_kept (hinv : SymbolInv s) (hs : s.phase ≠ .empty) (ht : t.phase ≠ .empty) (hsize : SymbolSizeKept s t)
    (hfn : ∀ r c, (cellAt t.mx r c).fn = (cellAt s.mx r c).fn) : SymbolInv t := by
  obtain ⟨hversion, hside, hcount⟩ := hsize
  refine ⟨fun h => absurd h ht, fun _ => ?_⟩
  simp only [symbolVersion, symbolSide, symbolDatamod, hversion, hside, hcount, hfn]
  exact hinv.2 hs

theorem CommandEffect.symbolInv (h : CommandEffect s i t) (hinv : SymbolInv s) : SymbolInv t := by
  cases h with
  | minit hv => exact symbolInv_startSymbol hv.1 hv.2 s
  | mplace hp => exact hinv.of_kept (by simp [hp]) nofun ⟨rfl, rfl, rfl⟩ (fn_placedMatrix _ _)
  | mapply hp => exact hinv.of_kept (by simp [hp]) nofun ⟨rfl, rfl, rfl⟩ (fn_masked _ _ _)
  | mselect hp => exact hinv.of_kept (by simp [hp]) nofun ⟨rfl, rfl, rfl⟩ (fn_masked _ _ _)
  | mformat hp => exact hinv.of_kept (by simp [hp]) nofun ⟨rfl, rfl, rfl⟩ (fn_formattedMatrix _)
  | _ => exact hinv

/-! ### The result registers -/

theorem CommandEffect.resultInv (h : CommandEffect s i t) (hinv : ResultInv s) : ResultInv t := by
  obtain ⟨hmask, hmask0, hlevel, hunwritten, hwords⟩ := hinv
  cases h with
  | minit => exact ⟨by simp, fun _ => rfl, by simp, fun _ => ⟨rfl, rfl, rfl⟩, nofun⟩
  | mplace hp =>
    exact ⟨by simpa [hp] using hmask, hmask0, by simpa [hp] using hlevel, fun _ => hunwritten (by simp [hp]), nofun⟩
  | mapply hp => exact ⟨by simp, nofun, by simpa [hp] using hlevel, fun _ => hunwritten (by simp [hp]), nofun⟩
  | mselect hp =>
    exact ⟨by simp, nofun, by simpa [hp, scoresRecorded] using hlevel, fun _ => hunwritten (by simp [hp]), nofun⟩
  | mformat hp =>
    exact ⟨by simpa [hp, mformatDone] using hmask, hmask0, by simp [mformatDone], fun hne => absurd rfl hne,
      fun _ => ⟨rfl, rfl⟩⟩
  | _ => exact ⟨hmask, hmask0, hlevel, hunwritten, hwords⟩

theorem symbolInv_reset (cw : Memory) (epoch : Nat) (inputs : List Input) (busData : Word) :
    SymbolInv (resetWith cw epoch inputs busData) := ⟨fun _ => ⟨rfl, rfl, rfl⟩, fun h => absurd rfl h⟩

theorem resultInv_reset (cw : Memory) (epoch : Nat) (inputs : List Input) (busData : Word) :
    ResultInv (resetWith cw epoch inputs busData) :=
  ⟨by simp [resetWith, State.reset], fun _ => rfl, by simp [resetWith, State.reset], fun _ => ⟨rfl, rfl, rfl⟩, nofun⟩

theorem StepEffect.symbolInv (h : StepEffect s t) (hinv : SymbolInv s) : SymbolInv t := by
  cases h with
  | command rest _ _ heffect => exact heffect.symbolInv hinv
  | reset => exact symbolInv_reset _ _ _ _
  | _ => exact hinv

theorem StepEffect.resultInv (h : StepEffect s t) (hinv : ResultInv s) : ResultInv t := by
  cases h with
  | command rest _ _ heffect => exact heffect.resultInv hinv
  | reset => exact resultInv_reset _ _ _ _
  | _ => exact hinv

/-- Settles O59: MINIT sets the size registers and the marks to the version's, and every later command writes values and result
registers only. -/
theorem stepKeepsTheSymbolOfItsVersion : Obligations.StepKeepsTheSymbolOfItsVersion := by
  unfold Obligations.StepKeepsTheSymbolOfItsVersion
  rintro s t h ⟨hsymbol, hresult⟩
  have heffect := step_effect h
  exact ⟨heffect.symbolInv hsymbol, heffect.resultInv hresult⟩

/-! ### Which cells are filled -/

theorem valOfBit_ne_unset (b : Bool) : valOfBit b ≠ .unset := by cases b <;> decide

theorem placedVal_ne_unset (src count b : Nat) : placedVal s src count b ≠ .unset := by
  unfold placedVal
  split
  · exact valOfBit_ne_unset _
  · decide

/-- Taking steps in order gives the starting cell or some step's cell. -/
theorem foldl_steps_mem (steps : List (Option Cell)) (start : Cell) :
    steps.foldl (fun cell step => step.getD cell) start = start ∨
      some (steps.foldl (fun cell step => step.getD cell) start) ∈ steps := by
  induction steps generalizing start with
  | nil => exact .inl rfl
  | cons o steps ih =>
    rw [List.foldl_cons]
    rcases ih (o.getD start) with h | h
    · rw [h]
      cases o with
      | none => exact .inl rfl
      | some x => exact .inr List.mem_cons_self
    · exact .inr (List.mem_cons_of_mem _ h)

theorem val_of_timingCell {side r c : Nat} {x : Cell} (h : timingCell side r c = some x) : x.val ≠ .unset := by
  have hval : ∀ j, timingVal j ≠ .unset := fun j => by
    unfold timingVal
    split <;> decide
  unfold timingCell at h
  split at h
  · cases h
    exact hval c
  · split at h
    · cases h
      exact hval r
    · cases h

/-- MINIT gives a value to every function module but the format and version cells (R216, R218). -/
theorem layoutCell_ne_unset {v r c : Nat} (hfn : (layoutCell v r c).fn = true) (hformat : formatReserve (sideOf v) r c = none)
    (hversion : versionReserve v r c = none) : (layoutCell v r c).val ≠ .unset := by
  rcases foldl_steps_mem (layoutSteps v r c) blankCell with h | h
  · rw [layoutCell, h] at hfn
    cases hfn
  · rw [← layoutCell] at h
    simp only [layoutSteps, hformat, hversion, List.mem_cons, List.not_mem_nil, reduceCtorEq, false_or, or_false] at h
    rcases h with h | h | h | h
    · obtain ⟨p, -, -, hx⟩ := finderCell_eq_some h.symm
      rw [hx, fnCell]
      split <;> decide
    · exact val_of_timingCell h.symm
    · obtain ⟨p, -, -, hx⟩ := alignCell_eq_some h.symm
      rw [hx, fnCell]
      split <;> decide
    · obtain ⟨-, hx⟩ := Option.ite_none_right_eq_some.mp h.symm
      rw [← Option.some.inj hx]
      decide

/-- MFORMAT leaves a value in the format cells, from version 7 on in the version cells, and in every cell that had one. -/
theorem formattedMatrix_ne_unset (h21 : 21 ≤ symbolSide s) (h177 : symbolSide s ≤ 177) (f : BitVec 15) {r c : Nat}
    (h : (r, c) ∉ formatCopy1 ++ formatCopy2 (symbolSide s) →
      ¬(7 ≤ symbolVersion s ∧ ((r, c) ∈ versionBlockA (symbolSide s) ∨ (r, c) ∈ versionBlockB (symbolSide s))) →
      (cellAt s.mx r c).val ≠ .unset) :
    (cellAt (formattedMatrix s f) r c).val ≠ .unset := by
  by_cases hformat : (r, c) ∈ formatCopy1 ++ formatCopy2 (symbolSide s)
  · obtain ⟨j, hj⟩ : ∃ j, formatCopy1[j]? = some (r, c) ∨ (formatCopy2 (symbolSide s))[j]? = some (r, c) := by
      rwa [List.mem_append, List.mem_iff_getElem?, List.mem_iff_getElem?, ← exists_or] at hformat
    rw [cellAt_formattedMatrix_format h21 h177 f hj]
    exact valOfBit_ne_unset _
  · obtain ⟨h1, h2⟩ := not_or.mp (mt List.mem_append.mpr hformat)
    by_cases hversion : 7 ≤ symbolVersion s ∧
        ((r, c) ∈ versionBlockA (symbolSide s) ∨ (r, c) ∈ versionBlockB (symbolSide s))
    · obtain ⟨h7, hmem⟩ := hversion
      obtain ⟨j, hj⟩ : ∃ j, (versionBlockA (symbolSide s))[j]? = some (r, c) ∨
          (versionBlockB (symbolSide s))[j]? = some (r, c) := by
        rwa [List.mem_iff_getElem?, List.mem_iff_getElem?, ← exists_or] at hmem
      rw [formattedMatrix, if_pos h7, cellAt_writeVersion h21 h177 _ _ hj]
      exact valOfBit_ne_unset _
    · have hkept : cellAt (formattedMatrix s f) r c = cellAt s.mx r c := by
        unfold formattedMatrix
        split
        · next h7 =>
          rw [cellAt_writeVersion_other _ _ (not_or.mp fun hmem => hversion ⟨h7, hmem⟩), cellAt_writeFormat_other _ _ h1 h2]
        · exact cellAt_writeFormat_other _ _ h1 h2
      rw [hkept]
      exact h hformat hversion

/-! ### The filled symbol -/

/-- The symbol of a state that has one: what SymbolInv says of it, with the bounds that follow. -/
structure HasSymbol (s : State) : Prop where
  version : 1 ≤ symbolVersion s ∧ symbolVersion s ≤ 40
  side : symbolSide s = sideOf (symbolVersion s)
  count : symbolDatamod s = countData (layout (symbolVersion s)) (sideOf (symbolVersion s))
  marks : ∀ r c, (cellAt s.mx r c).fn = (cellAt (layout (symbolVersion s)) r c).fn

theorem SymbolInv.hasSymbol (hinv : SymbolInv s) (h : s.phase ≠ .empty) : HasSymbol s := by
  obtain ⟨h1, h40, hside, hcount, hmarks⟩ := hinv.2 h
  exact ⟨⟨h1, h40⟩, hside, hcount, hmarks⟩

theorem HasSymbol.side_bounds (h : HasSymbol s) : 21 ≤ symbolSide s ∧ symbolSide s ≤ 177 := by
  rw [h.side]
  exact ⟨le_sideOf h.version.1, sideOf_le h.version.2⟩

/-- MPLACE on a symbol as MINIT left it reaches every data module (R226, R231). -/
theorem placedMatrix_ne_unset (h : HasSymbol s) (hmx : s.mx = layout (symbolVersion s)) (src count : Nat) {r c : Nat}
    (hr : r < symbolSide s) (hc : c < symbolSide s) (hfn : (cellAt s.mx r c).fn = false) :
    (cellAt (placedMatrix s src count) r c).val ≠ .unset := by
  have hmem : (r, c) ∈ zigzag s.mx (symbolSide s) := by
    rw [hmx] at hfn ⊢
    rw [h.side] at hr hc ⊢
    exact (mem_zigzag_layout_iff h.version.1 h.version.2 r c).mpr ⟨hr, hc, hfn⟩
  have hlength : (zigzag s.mx (symbolSide s)).length = symbolDatamod s := by
    rw [hmx, h.side, h.count, length_zigzag_layout h.version.1 h.version.2]
  obtain ⟨b, hb, hcell⟩ := List.mem_iff_getElem.mp hmem
  rw [cellAt_placedMatrix_getElem (p := (r, c)) h.side_bounds.2 (hlength ▸ hb) (hcell ▸ List.getElem?_eq_getElem hb)]
  exact placedVal_ne_unset _ _ _

theorem masked_ne_unset {mx : Matrix} {side r c : Nat} (h177 : side ≤ 177) (m : BitVec 3) (hr : r < side) (hc : c < side)
    (h : (cellAt mx r c).val ≠ .unset) : (cellAt (masked mx side m) r c).val ≠ .unset := by
  rw [cellAt_masked h177 mx m hr hc, maskedCell]
  split
  · cases hval : (cellAt mx r c).val <;> simp [flipVal]
  · exact h

theorem FilledInv.of_masked (hsymbol : HasSymbol s) (hinv : FilledInv s) (hp : s.phase = .placed) (m : BitVec 3)
    (hphase : t.phase = .masked) (hmx : t.mx = masked s.mx (symbolSide s) m) (hsize : SymbolSizeKept s t) : FilledInv t := by
  obtain ⟨-, hdata, hfunction, -⟩ := hinv
  obtain ⟨hversion, hside, -⟩ := hsize
  simp only [FilledInv, hphase, hmx, symbolSide, symbolVersion, hside, hversion]
  refine ⟨nofun, fun _ r c hr hc hfn => ?_, fun _ r c hfn => ?_, nofun⟩
  · rw [fn_masked] at hfn
    exact masked_ne_unset hsymbol.side_bounds.2 m hr hc (hdata (.inl hp) r c hr hc hfn)
  · rw [fn_masked] at hfn
    rw [cellAt_masked_of_fn m hfn]
    exact hfunction (.inl hp) r c hfn

/-- MFORMAT fills the symbol: data modules were filled by MPLACE, and function modules are as MINIT left them. -/
theorem formattedMatrix_filled (hsymbol : HasSymbol s) (hinv : FilledInv s) (hp : s.phase = .masked) (f : BitVec 15) {r c : Nat}
    (hr : r < symbolSide s) (hc : c < symbolSide s) : (cellAt (formattedMatrix s f) r c).val ≠ .unset := by
  obtain ⟨-, hdata, hfunction, -⟩ := hinv
  obtain ⟨h21, h177⟩ := hsymbol.side_bounds
  refine formattedMatrix_ne_unset h21 h177 f fun hformat hversion => ?_
  cases hfn : (cellAt s.mx r c).fn with
  | false => exact hdata (.inr (.inl hp)) r c hr hc hfn
  | true =>
    have hlayout : (cellAt (layout (symbolVersion s)) r c).fn = true := (hsymbol.marks r c).symm.trans hfn
    rw [hsymbol.side] at hr hc hformat hversion
    rw [hfunction (.inr hp) r c hfn]
    rw [cellAt_layout hsymbol.version.2 hr hc] at hlayout ⊢
    exact layoutCell_ne_unset hlayout ((formatReserve_eq_none_iff _ _ _).mpr (mt List.mem_append.mpr hformat))
      ((versionReserve_eq_none_iff _ _ _).mpr hversion)

theorem CommandEffect.filledInv (h : CommandEffect s i t) (hsymbol : SymbolInv s) (hinv : FilledInv s) : FilledInv t := by
  cases h with
  | minit hv =>
    refine ⟨fun _ => ?_, nofun, nofun, nofun⟩
    exact congrArg layout (startSymbol_size (s := s) hv.2).1.symm
  | mplace hp =>
    have hs := hsymbol.hasSymbol (by simp [hp])
    have hmx := hinv.1 hp
    refine ⟨nofun, fun _ r c hr hc hfn => ?_, fun _ r c hfn => ?_, nofun⟩
    · exact placedMatrix_ne_unset hs hmx _ _ hr hc ((fn_placedMatrix _ _ r c).symm.trans hfn)
    · have hfn' : (cellAt s.mx r c).fn = true := (fn_placedMatrix _ _ r c).symm.trans hfn
      exact (cellAt_placedMatrix_of_fn hfn').trans (by rw [hmx]; rfl)
  | mapply hp => exact .of_masked (hsymbol.hasSymbol (by simp [hp])) hinv hp _ rfl rfl ⟨rfl, rfl, rfl⟩
  | mselect hp => exact .of_masked (hsymbol.hasSymbol (by simp [hp])) hinv hp _ rfl rfl ⟨rfl, rfl, rfl⟩
  | mformat hp =>
    have hall := formattedMatrix_filled (hsymbol.hasSymbol (by simp [hp])) hinv hp
    exact ⟨nofun, fun _ r c hr hc _ => hall _ hr hc, nofun, fun _ r c hr hc => hall _ hr hc⟩
  | _ => exact hinv

theorem filledInv_reset (cw : Memory) (epoch : Nat) (inputs : List Input) (busData : Word) :
    FilledInv (resetWith cw epoch inputs busData) := ⟨nofun, nofun, nofun, nofun⟩

theorem StepEffect.filledInv (h : StepEffect s t) (hsymbol : SymbolInv s) (hinv : FilledInv s) : FilledInv t := by
  cases h with
  | command rest _ _ heffect => exact heffect.filledInv hsymbol hinv
  | reset => exact filledInv_reset _ _ _ _
  | _ => exact hinv

/-- Settles O60: MPLACE reaches every data module, a mask unsets none, and MFORMAT writes the cells MINIT reserved. -/
theorem stepKeepsTheSymbolFilled : Obligations.StepKeepsTheSymbolFilled := by
  unfold Obligations.StepKeepsTheSymbolFilled
  rintro s t h ⟨hsymbol, hfilled⟩
  have heffect := step_effect h
  exact ⟨heffect.symbolInv hsymbol, heffect.filledInv hsymbol hfilled⟩

/-- Settles O57: the register file meets its invariants with zeros, and the symbol's invariants ask for one only outside EMPTY. -/
theorem resetMeetsEveryInvariant : Obligations.ResetMeetsEveryInvariant := by
  unfold Obligations.ResetMeetsEveryInvariant
  exact ⟨⟨rfl, nofun, by simp [State.reset]⟩, ⟨Nat.zero_le _, rfl⟩, rfl, rfl, symbolInv_reset [] 0 [] 0#32,
    resultInv_reset [] 0 [] 0#32, filledInv_reset [] 0 [] 0#32⟩

end Sys2Proof.Machine
end

section
/-! SUPPORT. Quotients, inverses and logarithms in the field's ring; and the statements about NOP and the GF unit (O10 to O17). -/

namespace Sys2Proof.Machine

variable {a b : Byte} {s : State}

/-! ### Logarithms -/

/-- Every element but 0 is the power of α that its LOG entry names (R151). -/
theorem expAt_logAt (ha : a ≠ 0x00#8) : (logAt a).toNat < 255 ∧ expAt (logAt a).toNat = a := by
  obtain ⟨i, hi, rfl⟩ := exists_expAt_eq ha
  rw [log_exp i hi, BitVec.toNat_ofNat, Nat.mod_eq_of_lt (by omega)]
  exact ⟨hi, rfl⟩

theorem logAt_expAt {i : Nat} (hi : i < 255) : (logAt (expAt i)).toNat = i := by
  rw [log_exp i hi, BitVec.toNat_ofNat, Nat.mod_eq_of_lt (by omega)]

theorem toRing_eq_pow (ha : a ≠ 0x00#8) : toRing a = ringAlpha ^ (logAt a).toNat := by
  obtain ⟨hlt, hexp⟩ := expAt_logAt ha
  rw [← toRing_expAt hlt, hexp]

theorem toRing_expAt_mod (i : Nat) : toRing (expAt (i % 255)) = ringAlpha ^ i := by
  rw [toRing_expAt (Nat.mod_lt _ (by decide)), ← pow_eq_pow_mod _ ringAlpha_pow_255]

/-! ### Product, quotient and inverse -/

theorem gfMul_eq_fieldProduct (a b : Byte) : gfMul a b = fieldProduct a b :=
  toRing_injective (by rw [toRing_gfMul, toRing_fieldProduct])

theorem toRing_gfDiv_mul (a : Byte) (hb : b ≠ 0x00#8) : toRing (gfDiv a b) * toRing b = toRing a := by
  by_cases ha : a = 0x00#8
  · simp [gfDiv, ha]
  · have hlt := (expAt_logAt hb).1
    have hexponent : 255 + (logAt a).toNat - (logAt b).toNat + (logAt b).toNat = 255 + (logAt a).toNat := by omega
    rw [gfDiv, if_neg ha, toRing_expAt_mod, toRing_eq_pow ha, toRing_eq_pow hb, ← pow_add, hexponent, pow_add,
      ringAlpha_pow_255, one_mul]

theorem toRing_mul_gfInv (ha : a ≠ 0x00#8) : toRing a * toRing (gfInv a) = 1 := by
  have hlt := (expAt_logAt ha).1
  have hexponent : (logAt a).toNat + (255 - (logAt a).toNat) = 255 := by omega
  rw [gfInv, toRing_expAt_mod, toRing_eq_pow ha, ← pow_add, hexponent, ringAlpha_pow_255]

theorem gfDiv_eq_gfMul_gfInv (a : Byte) (hb : b ≠ 0x00#8) : gfDiv a b = gfMul a (gfInv b) := by
  apply toRing_injective
  calc toRing (gfDiv a b)
      = toRing (gfDiv a b) * (toRing b * toRing (gfInv b)) := by rw [toRing_mul_gfInv hb, mul_one]
    _ = toRing (gfMul a (gfInv b)) := by rw [← mul_assoc, toRing_gfDiv_mul a hb, toRing_gfMul]

theorem logAt_gfMul (ha : a ≠ 0x00#8) (hb : b ≠ 0x00#8) :
    (logAt (gfMul a b)).toNat = ((logAt a).toNat + (logAt b).toNat) % 255 := by
  rw [gfMul, if_neg (not_or.mpr ⟨ha, hb⟩), logAt_expAt (Nat.mod_lt _ (by decide))]

/-! ### The commands -/

theorem exec_gfdiv_zero (a : Byte) (s : State) : exec (.gfdiv a 0x00#8) s = .next (complete .divZero s) := rfl

theorem exec_gfdiv_of_ne (a : Byte) (hb : b ≠ 0x00#8) (s : State) :
    exec (.gfdiv a b) s = .next (gfResult (gfDiv a b) s) := if_neg hb

theorem exec_gfinv_zero (s : State) : exec (.gfinv 0x00#8) s = .next (complete .divZero s) := rfl

theorem exec_gfinv_of_ne (ha : a ≠ 0x00#8) (s : State) : exec (.gfinv a) s = .next (gfResult (gfInv a) s) := if_neg ha

theorem exec_gflog_zero (s : State) : exec (.gflog 0x00#8) s = .next (complete .logZero s) := rfl

theorem exec_gflog_of_ne (ha : a ≠ 0x00#8) (s : State) : exec (.gflog a) s = .next (gfResult (logAt a) s) := if_neg ha

/-- Settles O10: NOP is completion. -/
theorem nopOnlyCompletes : Obligations.NopOnlyCompletes := by
  unfold Obligations.NopOnlyCompletes
  exact fun _ => exec_nop

/-- Settles O11: GFADD writes the exclusive or. -/
theorem gfaddXorsItsOperands : Obligations.GfaddXorsItsOperands := by
  unfold Obligations.GfaddXorsItsOperands
  exact fun a b _ => exec_gfadd a b

/-- Settles O12: both products are the ring's, and the ring tells bytes apart. -/
theorem gfmulIsTheReducedCarrylessProduct : Obligations.GfmulIsTheReducedCarrylessProduct := by
  unfold Obligations.GfmulIsTheReducedCarrylessProduct
  intro a b s
  rw [exec_gfmul, gfMul_eq_fieldProduct]
  rfl

/-- Settles O13: logarithms subtract, and α has order 255. -/
theorem gfdivUndoesMultiplication : Obligations.GfdivUndoesMultiplication := by
  unfold Obligations.GfdivUndoesMultiplication
  refine fun a b s => ⟨?_, fun hb => ⟨gfDiv a b, ?_, exec_gfdiv_of_ne a hb s⟩⟩
  · rintro rfl
    exact exec_gfdiv_zero a s
  · exact toRing_injective (by rw [toRing_fieldProduct, toRing_gfDiv_mul a hb])

/-- Settles O14: the logarithm and its complement to 255 add up to the order of α. -/
theorem gfinvIsTheInverse : Obligations.GfinvIsTheInverse := by
  unfold Obligations.GfinvIsTheInverse
  refine fun a s => ⟨?_, fun ha => ⟨gfInv a, ?_, exec_gfinv_of_ne ha s⟩⟩
  · rintro rfl
    exact exec_gfinv_zero s
  · exact toRing_injective (by rw [toRing_fieldProduct, toRing_mul_gfInv ha, toRing_one])

/-- Settles O15: EXP runs through the powers of α, and its last entry is the first again. -/
theorem gfexpIsAPowerOfAlpha : Obligations.GfexpIsAPowerOfAlpha := by
  unfold Obligations.GfexpIsAPowerOfAlpha
  intro e s
  rw [exec_gfexp, expAt_eq_alphaPow_mod e.isLt]
  rfl

/-- Settles O16: LOG inverts EXP. -/
theorem gflogIsTheDiscreteLogarithm : Obligations.GflogIsTheDiscreteLogarithm := by
  unfold Obligations.GflogIsTheDiscreteLogarithm
  refine fun a s => ⟨?_, fun ha => ?_⟩
  · rintro rfl
    exact exec_gflog_zero s
  · obtain ⟨hlt, hexp⟩ := expAt_logAt ha
    exact ⟨logAt a, by omega, by rw [← expAt_eq_alphaPow hlt, hexp], exec_gflog_of_ne ha s⟩

/-- Settles O17: exclusive or and the unit's product are the ring's sum and product. -/
theorem gfUnitObeysTheFieldLaws : Obligations.GfUnitObeysTheFieldLaws := by
  unfold Obligations.GfUnitObeysTheFieldLaws
  refine fun a b c => ⟨⟨BitVec.xor_comm a b, BitVec.xor_assoc a b c, BitVec.xor_zero, BitVec.xor_self⟩, ?_,
    gfDiv_eq_gfMul_gfInv a, logAt_gfMul⟩
  refine ⟨toRing_injective ?_, toRing_injective ?_, toRing_injective ?_, gfMul_zero_left a, toRing_injective ?_⟩
  · simp only [toRing_gfMul, mul_comm]
  · simp only [toRing_gfMul, mul_assoc]
  · simp only [toRing_gfMul, toRing_one, one_mul]
  · simp only [toRing_gfMul, toRing_xor, mul_add]

end Sys2Proof.Machine
end

section
/-! SUPPORT. The division of R182 in the field's ring; and the statement that RSENC's data and correction codewords are a codeword
(O19). -/

namespace Sys2Proof.Machine

variable {s : State}

/-! ### The value of a list of coefficients -/

theorem toRing_add_self (a : Byte) : toRing a + toRing a = 0 := by rw [← toRing_xor, BitVec.xor_self, toRing_zero]

/-- Horner's rule goes on from any value (R180). -/
theorem toRing_polyValue_append (l m : List Byte) (x : Byte) :
    toRing (polyValue (l ++ m) x) = toRing (polyValue l x) * toRing x ^ m.length + toRing (polyValue m x) := by
  induction m using List.reverseRecOn with
  | nil => simp [polyValue]
  | append_singleton m d ih =>
    have hsnoc : ∀ l : List Byte, polyValue (l ++ [d]) x = fieldProduct (polyValue l x) x ^^^ d := fun l => by
      simp [polyValue, List.foldl_append]
    rw [← List.append_assoc, hsnoc, hsnoc, toRing_xor, toRing_xor, toRing_fieldProduct, toRing_fieldProduct, ih,
      List.length_append, List.length_singleton]
    ring

/-- The value of a list of n coefficients, highest degree first, as a sum. -/
theorem toRing_polyValue_map_range (e : Nat → Byte) (n : Nat) (x : Byte) :
    toRing (polyValue ((List.range n).map e) x) = ∑ j ∈ Finset.range n, toRing (e (n - 1 - j)) * toRing x ^ j := by
  have hreverse : (List.range n).map e = (List.range n).reverse.map fun j => e (n - 1 - j) := by
    refine List.ext_getElem (by simp) fun i hi _ => ?_
    simp only [List.length_map, List.length_range] at hi
    simp only [List.getElem_map, List.getElem_range, List.getElem_reverse, List.length_range]
    congr 1
    omega
  rw [hreverse, polyValue, toRing_horner, toRing_zero, zero_mul, zero_add]

theorem toRing_polyValue_getD {r : List Byte} {n : Nat} (h : r.length = n) (x : Byte) :
    toRing (polyValue r x) = ∑ j ∈ Finset.range n, toRing (r.getD (n - 1 - j) 0x00#8) * toRing x ^ j := by
  rw [← toRing_polyValue_map_range (fun j => r.getD j 0x00#8)]
  congr 2
  refine List.ext_getElem (by simp [h]) fun i hi _ => ?_
  simp [hi]

/-! ### The generator at its roots (R181) -/

theorem rootProduct_eq_zero {n i : Nat} (hi : i < n) : rootProduct n (alphaPow i) = 0x00#8 := by
  induction n with
  | zero => cases hi
  | succ n ih =>
    apply toRing_injective
    rw [rootProduct_succ, toRing_fieldProduct, toRing_zero]
    rcases Nat.lt_succ_iff_lt_or_eq.mp hi with hlt | rfl
    · rw [ih hlt, toRing_zero, zero_mul]
    · rw [BitVec.xor_self, toRing_zero, mul_zero]

/-- A monic polynomial of degree n without its leading term. -/
theorem sum_genAt_of_monic {g : Vector Byte 31} {n : Nat} (hn : n ≤ 30) (h : MonicOfDegree g n) (x : Byte) :
    ∑ j ∈ Finset.range 31, toRing (genAt g j) * toRing x ^ j =
      ∑ j ∈ Finset.range n, toRing (genAt g j) * toRing x ^ j + toRing x ^ n := by
  have hsubset : Finset.range (n + 1) ⊆ Finset.range 31 := Finset.range_subset_range.mpr (by omega)
  rw [← Finset.sum_subset hsubset fun j _ hj => ?_, Finset.sum_range_succ, h.leading, toRing_one, one_mul]
  rw [h.above j (by simpa using hj), toRing_zero, zero_mul]

/-! ### The division (R182) -/

theorem remainderStep_eq (g : Vector Byte 31) {n : Nat} {r : List Byte} (hr : r.length = n) (d : Byte) :
    remainderStep g n r d = (List.range n).map fun j =>
      r.getD (j + 1) 0x00#8 ^^^ gfMul (d ^^^ r.getD 0 0x00#8) (genAt g (n - 1 - j)) := by
  refine List.map_congr_left fun j hj => ?_
  rw [List.mem_range] at hj
  by_cases hlast : j + 1 < n
  · rw [if_pos hlast]
  · have hpast : r.getD (j + 1) 0x00#8 = 0x00#8 := List.getD_eq_default _ _ (by omega)
    rw [if_neg hlast, hpast, show n - 1 - j = 0 by omega, BitVec.zero_xor]

/-- One turn of R182's loop at a root of the generator: the remainder's value is multiplied by x and d x^n added. -/
theorem toRing_polyValue_remainderStep {g : Vector Byte 31} {n : Nat} {x : Byte}
    (hroot : ∑ j ∈ Finset.range n, toRing (genAt g j) * toRing x ^ j = toRing x ^ n) {r : List Byte} (hr : r.length = n)
    (d : Byte) :
    toRing (polyValue (remainderStep g n r d) x) = toRing (polyValue r x) * toRing x + toRing d * toRing x ^ n := by
  have hshift :
      ∑ j ∈ Finset.range n, toRing (r.getD (n - j) 0x00#8) * toRing x ^ j + toRing (r.getD 0 0x00#8) * toRing x ^ n =
        toRing (polyValue r x) * toRing x := by
    have hlast : r.getD n 0x00#8 = 0x00#8 := List.getD_eq_default _ _ hr.le
    have hsplit := Finset.sum_range_succ (fun j => toRing (r.getD (n - j) 0x00#8) * toRing x ^ j) n
    rw [Nat.sub_self] at hsplit
    rw [← hsplit, Finset.sum_range_succ', Nat.sub_zero, hlast, toRing_zero, zero_mul, add_zero, toRing_polyValue_getD hr,
      Finset.sum_mul]
    refine Finset.sum_congr rfl fun j _ => ?_
    rw [Nat.sub_sub, Nat.add_comm 1 j, pow_succ, mul_assoc]
  have hterms : ∀ j ∈ Finset.range n,
      toRing (r.getD (n - 1 - j + 1) 0x00#8 ^^^ gfMul (d ^^^ r.getD 0 0x00#8) (genAt g (n - 1 - (n - 1 - j)))) * toRing x ^ j =
        toRing (r.getD (n - j) 0x00#8) * toRing x ^ j +
          (toRing d + toRing (r.getD 0 0x00#8)) * (toRing (genAt g j) * toRing x ^ j) := fun j hj => by
    rw [Finset.mem_range] at hj
    rw [toRing_xor, toRing_gfMul, toRing_xor, show n - 1 - j + 1 = n - j by omega, show n - 1 - (n - 1 - j) = j by omega]
    ring
  rw [remainderStep_eq g hr, toRing_polyValue_map_range, Finset.sum_congr rfl hterms, Finset.sum_add_distrib,
    ← Finset.mul_sum, hroot]
  linear_combination hshift

/-- Data and remainder together vanish where the generator does (R186). -/
theorem polyValue_append_remainder {g : Vector Byte 31} {n : Nat} {x : Byte}
    (hroot : ∑ j ∈ Finset.range n, toRing (genAt g j) * toRing x ^ j = toRing x ^ n) (data : List Byte) :
    polyValue (data ++ remainder g n data) x = 0x00#8 := by
  apply toRing_injective
  rw [toRing_polyValue_append, length_remainder, toRing_zero]
  induction data using List.reverseRecOn with
  | nil =>
    have hzeros : toRing (polyValue (List.replicate n 0x00#8) x) = 0 := by
      rw [toRing_polyValue_getD List.length_replicate]
      exact Finset.sum_eq_zero fun j _ => by simp
    have hstart : remainder g n [] = List.replicate n 0x00#8 := rfl
    rw [hstart, hzeros]
    simp [polyValue]
  | append_singleton data d ih =>
    have hstep : remainder g n (data ++ [d]) = remainderStep g n (remainder g n data) d := by
      simp [remainder, List.foldl_append]
    have hvalue : toRing (polyValue (data ++ [d]) x) = toRing (polyValue data x) * toRing x + toRing d := by
      rw [polyValue, List.foldl_append, List.foldl_cons, List.foldl_nil, toRing_xor, toRing_fieldProduct]
      rfl
    rw [hstep, hvalue, toRing_polyValue_remainderStep hroot (length_remainder g n data)]
    linear_combination toRing x * ih + toRing x ^ n * toRing_add_self d

theorem sum_generator_root {n i : Nat} (hn : n ≤ 30) (hi : i < n) :
    ∑ j ∈ Finset.range n, toRing (genAt (generator n) j) * toRing (alphaPow i) ^ j = toRing (alphaPow i) ^ n := by
  have hzero : toRing (polyValue (genCoeffs (generator n)) (alphaPow i)) = 0 := by
    rw [polyValue_generator hn, rootProduct_eq_zero hi, toRing_zero]
  rw [toRing_polyValue_genCoeffs, sum_genAt_of_monic hn (monicOfDegree_generator hn)] at hzero
  have htwo := toRing_add_self 0x01#8
  rw [toRing_one] at htwo
  linear_combination hzero - toRing (alphaPow i) ^ n * htwo

/-- Settles O19: the correction codewords are the remainder of a division by a polynomial that vanishes at the roots. -/
theorem rsencMakesACodewordOfItsBlock : Obligations.RsencMakesACodewordOfItsBlock := by
  unfold Obligations.RsencMakesACodewordOfItsBlock
  intro k n s h
  have hsnapshot := rsencHasSnapshotSemantics
  unfold Obligations.RsencHasSnapshotSemantics at hsnapshot
  obtain ⟨t, ht, hblock, -⟩ := hsnapshot k n s h
  obtain rfl : rsencDone k.toNat n.toNat s = t := Host.Outcome.next.inj ((exec_rsenc_of_accepts h).symm.trans ht)
  obtain ⟨h1, h30, -⟩ := h
  refine ⟨_, ht, ⟨rfl, rfl, rfl, rfl⟩, fun i hi => ?_, ?_, fun u hu => ?_⟩
  · rw [hblock]
    exact polyValue_append_remainder (sum_generator_root h30 hi) _
  · exact (BitVec.ofNat_toNat 8 n).trans (BitVec.setWidth_eq n)
  · cases (exec_rsgen_of_le h1 h30).symm.trans hu
    rfl

end Sys2Proof.Machine
end

section
/-! SUPPORT. Where alignment patterns stand, and that no later step of MINIT sets their cells; and the statements about a new
symbol (O21) and its alignment patterns (O24). -/

namespace Sys2Proof.Machine

variable {s : State}

theorem exec_minit_of_le {v : Byte} (h1 : 1 ≤ v.toNat) (h40 : v.toNat ≤ 40) :
    exec (.minit v) s = .next (complete .none (startSymbol v.toNat s)) := if_pos ⟨h1, h40⟩

/-- Settles O21: MX_VERSION, MX_SIZE and MX_DATAMOD are wide enough for their numbers. -/
theorem minitStartsASymbol : Obligations.MinitStartsASymbol := by
  unfold Obligations.MinitStartsASymbol
  intro v s h1 h40
  obtain ⟨-, -, hcount⟩ := startSymbol_size (s := s) h40
  refine ⟨layout v.toNat, _, hcount, ?_⟩
  have hversion : BitVec.ofNat 6 v.toNat = v.setWidth 6 := BitVec.eq_of_toNat_eq (by simp)
  rw [exec_minit_of_le h1 h40, complete, startSymbol, hversion]
  rfl

/-! ### Alignment patterns (R213, R214) -/

/-- Two coordinates of a version are one or far enough apart, and each leaves room for a pattern inside the symbol. -/
theorem alignCoords_apart :
    ∀ v < 41, ∀ x ∈ alignCoords v, x + 7 ≤ sideOf v ∧ ∀ y ∈ alignCoords v, x = y ∨ x + 5 ≤ y ∨ y + 5 ≤ x := by
  decide +kernel

theorem mem_alignCoords_of_mem {v : Nat} {p : Nat × Nat} (hp : p ∈ alignCentres v) :
    p.1 ∈ alignCoords v ∧ p.2 ∈ alignCoords v := by
  obtain ⟨a, b, ha, hb, -⟩ := (mem_alignCentres_iff v p.1 p.2).mp hp
  exact ⟨List.mem_of_getElem? ha, List.mem_of_getElem? hb⟩

/-- No cell is near two alignment centres. -/
theorem alignCentre_unique {v r c : Nat} (hv : v ≤ 40) {p q : Nat × Nat} (hp : p ∈ alignCentres v) (hq : q ∈ alignCentres v)
    (hpr : ringOf r c p.1 p.2 ≤ 2) (hqr : ringOf r c q.1 q.2 ≤ 2) : p = q := by
  obtain ⟨hp1, hp2⟩ := mem_alignCoords_of_mem hp
  obtain ⟨hq1, hq2⟩ := mem_alignCoords_of_mem hq
  have h1 := (alignCoords_apart v (by omega) _ hp1).2 _ hq1
  have h2 := (alignCoords_apart v (by omega) _ hp2).2 _ hq2
  rw [ringOf_le_iff] at hpr hqr
  exact Prod.ext (by omega) (by omega)

theorem alignCell_of_near {v r c : Nat} (hv : v ≤ 40) {p : Nat × Nat} (hp : p ∈ alignCentres v) (h : ringOf r c p.1 p.2 ≤ 2) :
    alignCell v r c = some (fnCell (if ringOf r c p.1 p.2 = 0 ∨ ringOf r c p.1 p.2 = 2 then .dark else .light)) := by
  obtain ⟨x, hx⟩ := Option.ne_none_iff_exists'.mp (mt (alignCell_eq_none_iff v r c).mp (not_not_intro ⟨p, hp, h⟩))
  obtain ⟨q, hq, hnear, rfl⟩ := alignCell_eq_some hx
  rwa [alignCentre_unique hv hq hp hnear h] at hx

/-- The later steps of MINIT stay in the corners, which no alignment pattern reaches. -/
theorem layoutCell_align {v r c : Nat} (h1 : 1 ≤ v) (hv : v ≤ 40) {x : Cell} (h : alignCell v r c = some x) :
    layoutCell v r c = x := by
  have hs := le_sideOf h1
  have hcorner : ¬((r ≤ 8 ∧ c ≤ 8) ∨ (r ≤ 8 ∧ sideOf v ≤ c + 11) ∨ (sideOf v ≤ r + 11 ∧ c ≤ 8)) := fun hc => by
    rw [alignCell_corner hv hc] at h
    cases h
  have hversion := (versionReserve_eq_none_iff v r c).mpr
    (by rw [mem_versionBlockA_iff hs, mem_versionBlockB_iff hs]; omega)
  have hdark := (darkModule_eq_none_iff (sideOf v) r c).mpr (by omega)
  have hformat := (formatReserve_eq_none_iff (sideOf v) r c).mpr
    (by rw [mem_formatCopy1_iff, mem_formatCopy2_iff hs]; omega)
  rw [layoutCell_eq, hversion, hdark, hformat, h]
  rfl

/-- Settles O24: the ring of a cell around its one centre gives its value. -/
theorem minitPlacesAlignmentPatterns : Obligations.MinitPlacesAlignmentPatterns := by
  unfold Obligations.MinitPlacesAlignmentPatterns
  intro v s t h1 h40 hexec r0 c0 r c hcentre hnear
  rw [distance_eq_ringOf] at hnear ⊢
  have hp : (r0, c0) ∈ alignCentres v.toNat := (mem_alignCentres_iff _ _ _).mpr hcentre
  obtain ⟨hr0, hc0⟩ := mem_alignCoords_of_mem hp
  have hrow := (alignCoords_apart _ (by omega) _ hr0).1
  have hcol := (alignCoords_apart _ (by omega) _ hc0).1
  have hring := (ringOf_le_iff ..).mp hnear
  rw [exec_minit_mx h1 h40 hexec, cellAt_layout h40 (by omega) (by omega),
    layoutCell_align h1 h40 (alignCell_of_near h40 hp hnear)]
  have hdark : (ringOf r c r0 c0 = 0 ∨ ringOf r c r0 c0 = 2) ↔ ¬ringOf r c r0 c0 = 1 := by omega
  simp only [fnCell, hdark, ite_not]

end Sys2Proof.Machine
end

section
/-! SUPPORT. What a mask does to each cell, that the selected mask is the lowest minimum, and the bounds of the four penalties;
and the statements about MAPPLY, MSELECT and the penalties (O29, O33 to O35). -/

namespace Sys2Proof.Machine

variable {s : State}

/-! ### The cells under a mask (R262) -/

/-- Masking flips the data modules of the symbol that the mask's rule selects. -/
theorem cellAt_masked_eq {side : Nat} (h : side ≤ 177) (mx : Matrix) (m : BitVec 3) (r c : Nat) :
    cellAt (masked mx side m) r c =
      if r < side ∧ c < side ∧ (cellAt mx r c).fn = false ∧ MaskRule m.toNat r c then
        { fn := false, val := if (cellAt mx r c).val = .dark then .light else .dark }
      else cellAt mx r c := by
  have hflip : ∀ v : CellVal, flipVal v = if v = .dark then .light else .dark := fun v => by cases v <;> rfl
  by_cases hin : r < side ∧ c < side
  · rw [cellAt_masked h mx m hin.1 hin.2]
    simp only [maskedCell, maskCond_iff]
    split
    · next hsel => rw [hflip, hsel.2.2.1]
    · rfl
  · rw [if_neg fun hsel => hin ⟨hsel.1, hsel.2.1⟩, masked, cellAt_tabulate]
    split
    · exact if_neg fun hsel => hin ⟨hsel.1, hsel.2.1⟩
    · next hout => exact (cellAt_outside hout).symm

theorem exec_mapply_of_placed (m : Byte) (h : s.phase = .placed) :
    exec (.mapply m) s = .next (complete .none (applyMask (maskOperand m) s)) := by
  simp only [exec, execMapply]
  rw [if_neg (not_not_intro h)]

/-- Settles O29: the machine's condition is the mask's rule. -/
theorem mapplyFlipsTheSelectedDataModules : Obligations.MapplyFlipsTheSelectedDataModules := by
  unfold Obligations.MapplyFlipsTheSelectedDataModules
  intro m s hphase hside
  have hindex : (m.setWidth 3).toNat = m.toNat % 8 := by simp
  refine ⟨masked s.mx (symbolSide s) (m.setWidth 3), ?_, fun r c => ?_⟩
  · rw [exec_mapply_of_placed m hphase, maskOperand_eq]
    rfl
  · rw [cellAt_masked_eq hside, hindex]

/-! ### The selected mask (R271) -/

/-- Of masks in rising order, the search returns one with the smallest total, and of those the lowest. -/
theorem bestOf_lowest (t : BitVec 3 → Nat) (best : BitVec 3) (ms : List (BitVec 3))
    (hsorted : (best :: ms).Pairwise fun a b => a.toNat < b.toNat) :
    ∀ m ∈ best :: ms, t (bestOf t best ms) ≤ t m ∧ (t m = t (bestOf t best ms) → (bestOf t best ms).toNat ≤ m.toNat) := by
  induction ms generalizing best with
  | nil =>
    intro m hm
    rw [List.mem_singleton.mp hm]
    exact ⟨le_rfl, fun _ => le_rfl⟩
  | cons x ms ih =>
    rw [bestOf]
    split
    · next hlt =>
      have hrest := ih x (List.pairwise_cons.mp hsorted).2
      have hx := hrest x List.mem_cons_self
      intro m hm
      rcases List.mem_cons.mp hm with rfl | hm
      · exact ⟨by omega, fun h => by omega⟩
      · exact hrest m hm
    · next hge =>
      have hrest := ih best (hsorted.sublist ((List.sublist_cons_self x ms).cons_cons best))
      have hbest := hrest best List.mem_cons_self
      have hbelow := (List.pairwise_cons.mp hsorted).1 x List.mem_cons_self
      intro m hm
      rcases List.mem_cons.mp hm with rfl | hm
      · exact hbest
      · rcases List.mem_cons.mp hm with rfl | hm
        · exact ⟨by omega, fun h => (hbest.2 (by omega)).trans hbelow.le⟩
        · exact hrest m (List.mem_cons_of_mem _ hm)

theorem bestMask_lowest (t : BitVec 3 → Nat) (m : BitVec 3) :
    t (bestMask t) ≤ t m ∧ (t m = t (bestMask t) → (bestMask t).toNat ≤ m.toNat) := by
  have hfirst : bestMask t = bestOf t 0#3 [1#3, 2#3, 3#3, 4#3, 5#3, 6#3, 7#3] := by
    rw [bestMask, allMasks, bestOf, ite_self]
  have hall : ∀ m : BitVec 3, m ∈ [0#3, 1#3, 2#3, 3#3, 4#3, 5#3, 6#3, 7#3] := by decide
  rw [hfirst]
  exact bestOf_lowest t 0#3 _ (by decide) m (hall m)

theorem exec_mselect_of_placed (h : s.phase = .placed) :
    exec .mselect s = .next (complete .none (applyMask (selectedMask s) (scoresRecorded s))) := by
  simp only [exec, execMselect]
  rw [if_neg (not_not_intro h)]
  rfl

theorem totalOf_eq (h : symbolSide s ≤ 177) (m : BitVec 3) : totalOf s m = penaltyTotal (scoreRules s m) := by
  rw [totalOf, scoreOf_eq h]

/-- Settles O33: every score is the rules', and the search goes through the masks in rising order. -/
theorem mselectTakesTheLowestMinimum : Obligations.MselectTakesTheLowestMinimum := by
  unfold Obligations.MselectTakesTheLowestMinimum
  intro s hphase hside
  have hscore : scoreOf s (selectedMask s) = scoreRules s (selectedMask s) := scoreOf_eq hside _
  have hlowest := bestMask_lowest (totalOf s)
  simp only [totalOf_eq hside] at hlowest
  refine ⟨_, exec_mselect_of_placed hphase, ⟨rfl, rfl, rfl, rfl⟩, rfl, rfl, rfl, fun m => (hlowest m).1,
    fun m => (hlowest m).2, fun m => ?_, ?_, ?_, ?_, ?_, ?_, cellAt_masked_eq hside s.mx (selectedMask s)⟩
  · simp [scoresRecorded, ← totalOf_eq hside, m.isLt]
  · exact congrArg (fun p => BitVec.ofNat 32 p.n1) hscore
  · exact congrArg (fun p => BitVec.ofNat 32 p.n2) hscore
  · exact congrArg (fun p => BitVec.ofNat 32 p.n3) hscore
  · exact congrArg (fun p => BitVec.ofNat 32 p.n4) hscore
  · exact congrArg (fun p => BitVec.ofNat 32 (penaltyTotal p)) hscore

/-! ### Bounds (R269) -/

theorem sum_map_range_le {f : Nat → Nat} {k : Nat} (n : Nat) (h : ∀ i < n, f i ≤ k) : ((List.range n).map f).sum ≤ n * k := by
  have hterm : ∀ x ∈ (List.range n).map f, x ≤ k := by
    intro x hx
    obtain ⟨i, hi, rfl⟩ := List.mem_map.mp hx
    exact h i (List.mem_range.mp hi)
  simpa using List.sum_le_card_nsmul _ k hterm

theorem overLines_le {rule : (Nat → Bool) → Nat → Nat} {n k : Nat} (h : ∀ line, rule line n ≤ k) (b : Nat → Nat → Bool) :
    overLines rule b n ≤ 2 * n * k := by
  have hrows := sum_map_range_le (f := fun r => rule (fun c => b r c) n) n fun r _ => h _
  have hcols := sum_map_range_le (f := fun c => rule (fun r => b r c) n) n fun c _ => h _
  rw [overLines, Nat.mul_assoc]
  omega

/-- Runs of total length len + l.length score 2 less than their length at most. -/
theorem runsFrom_le (colour : Bool) (len : Nat) (l : List Bool) : runsFrom colour len l ≤ len + l.length - 2 := by
  induction l generalizing colour len with
  | nil =>
    rw [runsFrom, runScore, List.length_nil]
    split <;> omega
  | cons x xs ih =>
    have hsame := ih colour (len + 1)
    have hnew := ih x 1
    rw [runsFrom, runScore, List.length_cons]
    split
    · omega
    · split <;> omega

theorem runsRule_le (line : Nat → Bool) (n : Nat) : runsRule line n ≤ n - 2 := by
  rw [← lineRuns_eq]
  cases n with
  | zero => exact le_rfl
  | succ n =>
    rw [List.range_succ_eq_map, List.map_cons, lineRuns]
    refine (runsFrom_le _ _ _).trans ?_
    simp
    omega

theorem findersRule_le (line : Nat → Bool) (n : Nat) : findersRule line n ≤ (n - 10) * 40 := by
  rw [findersRule_eq]
  refine sum_map_range_le _ fun k _ => ?_
  unfold findersAt
  split <;> decide

theorem blocksRule_le (b : Nat → Nat → Bool) (n : Nat) : blocksRule b n ≤ (n - 1) * ((n - 1) * 3) := by
  refine sum_map_range_le _ fun r _ => sum_map_range_le _ fun c _ => ?_
  split <;> decide

theorem darkCount_le (b : Nat → Nat → Bool) (n : Nat) : darkCount b n ≤ n * n :=
  sum_map_range_le n fun _ _ => List.countP_le_length.trans_eq List.length_range

theorem proportion_le (b : Nat → Nat → Bool) (n : Nat) : (penaltyRules b n).n4 ≤ 100 := by
  have hdark := darkCount_le b n
  have habs : (20 * (darkCount b n : Int) - 10 * ((n * n : Nat) : Int)).natAbs ≤ 10 * (n * n) := by omega
  have hquot := Nat.div_le_of_le_mul (Nat.mul_comm 10 (n * n) ▸ habs)
  exact Nat.mul_le_mul_left 10 hquot

/-- The bounds of R269 on any grid. -/
structure PenaltyBounds (p : Penalty) (n : Nat) : Prop where
  runs : p.n1 ≤ 2 * n * (n - 2)
  blocks : p.n2 ≤ 3 * (n - 1) ^ 2
  finders : p.n3 ≤ 40 * (2 * n * (n - 10))
  proportion : p.n4 ≤ 100

theorem penaltyBounds_penaltyRules (b : Nat → Nat → Bool) (n : Nat) : PenaltyBounds (penaltyRules b n) n where
  runs := overLines_le (fun line => runsRule_le line n) b
  blocks := (blocksRule_le b n).trans_eq (by ring)
  finders := (overLines_le (fun line => findersRule_le line n) b).trans_eq (by ring)
  proportion := proportion_le b n

/-- In the largest symbol the four bounds add up to less than 2^22. -/
theorem PenaltyBounds.total_lt {p : Penalty} {n : Nat} (h : PenaltyBounds p n) (hn : n ≤ 177) :
    p.n1 + p.n2 + p.n3 + p.n4 < 2 ^ 22 := by
  obtain ⟨hruns, hblocks, hfinders, hdark⟩ := h
  have h1 : 2 * n * (n - 2) ≤ 2 * 177 * 175 := Nat.mul_le_mul (by omega) (by omega)
  have h2 : (n - 1) ^ 2 ≤ 176 ^ 2 := Nat.pow_le_pow_left (by omega) 2
  have h3 : 2 * n * (n - 10) ≤ 2 * 177 * 167 := Nat.mul_le_mul (by omega) (by omega)
  omega

/-- Settles O34: a line scores less than its length, a window at most its weight, and 32 bits hold every sum. -/
theorem penaltiesNeverOverflow : Obligations.PenaltiesNeverOverflow := by
  unfold Obligations.PenaltiesNeverOverflow
  intro m s hphase hside
  have hbounds : PenaltyBounds (scoreOf s (maskOperand m)) (symbolSide s) := by
    rw [scoreOf_eq hside]
    exact penaltyBounds_penaltyRules _ _
  have htotal := hbounds.total_lt hside
  have hexact : ∀ x ≤ 2 ^ 22, (BitVec.ofNat 32 x).toNat = x := fun x hx => by
    rw [BitVec.toNat_ofNat]
    omega
  obtain ⟨hruns, hblocks, hfinders, hdark⟩ := hbounds
  refine ⟨_, exec_mscore_of_placed m hphase, ?_⟩
  simp only [complete_penN1, complete_penN2, complete_penN3, complete_penN4, complete_penTotal, recordPenalty_penN1,
    recordPenalty_penN2, recordPenalty_penN3, recordPenalty_penN4, recordPenalty_penTotal, penaltyTotal]
  rw [hexact _ (by omega), hexact _ (by omega), hexact _ (by omega), hexact _ (by omega), hexact _ (by omega)]
  exact ⟨hruns, hblocks, hfinders, hdark, rfl, htotal⟩

/-! ### Selection reads the symbol alone (R272) -/

theorem cellAt_masked_congr {mx mx' : Matrix} {r c : Nat} (side : Nat) (m : BitVec 3) (h : cellAt mx r c = cellAt mx' r c) :
    cellAt (masked mx side m) r c = cellAt (masked mx' side m) r c := by
  simp only [masked, cellAt_tabulate, maskedCell, h]

theorem scoreOf_congr {s s' : State} (hsize : s.mxSize = s'.mxSize)
    (hcells : ∀ r c, r < s.mxSize.toNat → c < s.mxSize.toNat → cellAt s.mx r c = cellAt s'.mx r c) : scoreOf s = scoreOf s' := by
  funext m
  have hgrid : scoreGrid (masked s.mx (symbolSide s) m) (symbolSide s) =
      scoreGrid (masked s'.mx (symbolSide s) m) (symbolSide s) := by
    refine List.map_congr_left fun r hr => List.map_congr_left fun c hc => ?_
    rw [cellAt_masked_congr _ m (hcells r c (List.mem_range.mp hr) (List.mem_range.mp hc))]
  have hside : symbolSide s = symbolSide s' := congrArg BitVec.toNat hsize
  calc scoreOf s m
      = penaltyOf (scoreGrid (masked s.mx (symbolSide s) m) (symbolSide s)) := rfl
    _ = penaltyOf (scoreGrid (masked s'.mx (symbolSide s') m) (symbolSide s')) := by rw [hgrid, hside]
    _ = scoreOf s' m := rfl

/-- Settles O35: the scores, and so the selection, are a function of the cells of the symbol. -/
theorem selectionDependsOnTheSymbolAlone : Obligations.SelectionDependsOnTheSymbolAlone := by
  unfold Obligations.SelectionDependsOnTheSymbolAlone
  intro s s' hphase hphase' hsize hcells
  have hscore := scoreOf_congr hsize hcells
  have htotal : totalOf s = totalOf s' := by
    funext m
    rw [totalOf, totalOf, hscore]
  have hmask : selectedMask s = selectedMask s' := by rw [selectedMask, selectedMask, htotal]
  refine ⟨_, _, exec_mselect_of_placed hphase, exec_mselect_of_placed hphase', ?_, ?_, hmask, fun r c hr hc => ?_⟩
  · simp only [complete_penM, applyMask_penM, scoresRecorded, htotal]
  · simp [BreakdownKept, scoresRecorded, hscore, hmask]
  · have hside : symbolSide s = symbolSide s' := congrArg BitVec.toNat hsize
    show cellAt (masked s.mx (symbolSide s) (selectedMask s)) r c = cellAt (masked s'.mx (symbolSide s') (selectedMask s')) r c
    rw [← hmask, ← hside]
    exact cellAt_masked_congr _ _ (hcells r c hr hc)

end Sys2Proof.Machine
end

section
/-! SUPPORT. The checks of each command in their order, that no command reads a live operand register, and the interrupt output;
and the statements about them and about CMD writes (O45, O47, O48, O53). -/

namespace Sys2Proof.Machine

variable {s : State}

/-! ### Live operand registers (R123) -/

/-- The state with these values in RS_SRC, RS_DST, PL_SRC and PL_COUNT. -/
def withOperands (a b c d : CwOffset) (s : State) : State := { s with rsSrc := a, rsDst := b, plSrc := c, plCount := d }

/-- An outcome with its next state, if it has one, changed by f. -/
def mapNext (f : State → State) : Host.Outcome State Fault Refusal → Host.Outcome State Fault Refusal
  | .next t => .next (f t)
  | .fault r => .fault r
  | .refused r => .refused r

/-- Every arm of exec is a row of tests around completions, and no test and no result reads the four registers. -/
theorem exec_withOperands (i : Instr) (a b c d : CwOffset) (s : State) :
    exec i (withOperands a b c d s) = mapNext (withOperands a b c d) (exec i s) := by
  cases i <;>
    simp only [exec, execGfdiv, execGfinv, execGflog, execRsgen, execRsenc, execMinit, execMplace, execMapply, execMscore,
      execMselect, execMformat, apply_ite (mapNext (withOperands a b c d))] <;> rfl

/-- Settles O47: setting the registers before the command or after it comes to the same. -/
theorem commandsUseTheLatchedOperands : Obligations.CommandsUseTheLatchedOperands := by
  unfold Obligations.CommandsUseTheLatchedOperands
  intro i s t a b c d h
  exact (exec_withOperands i a b c d s).trans (by rw [h]; rfl)

/-! ### Checks (R303) -/

theorem exec_rsgen_of_not {n : Byte} (h : ¬(1 ≤ n.toNat ∧ n.toNat ≤ 30)) :
    exec (.rsgen n) s = .next (complete .rsN s) := if_neg h

theorem exec_minit_of_not {v : Byte} (h : ¬(1 ≤ v.toNat ∧ v.toNat ≤ 40)) :
    exec (.minit v) s = .next (complete .mxVersion s) := if_neg h

/-- RSENC's checks in order: n, then k, then the ranges. -/
theorem exec_rsenc_checks (k n : Byte) :
    (¬(1 ≤ n.toNat ∧ n.toNat ≤ 30) → exec (.rsenc k n) s = .next (complete .rsN s)) ∧
    ((1 ≤ n.toNat ∧ n.toNat ≤ 30) → ¬(1 ≤ k.toNat ∧ k.toNat + n.toNat ≤ 255) →
      exec (.rsenc k n) s = .next (complete .rsK s)) ∧
    ((1 ≤ n.toNat ∧ n.toNat ≤ 30) → (1 ≤ k.toNat ∧ k.toNat + n.toNat ≤ 255) →
      ¬(s.lrsSrc.toNat + k.toNat ≤ 4096 ∧ s.lrsDst.toNat + n.toNat ≤ 4096) → exec (.rsenc k n) s = .next (complete .rsRange s)) := by
  refine ⟨fun hn => if_pos hn, fun hn hk => ?_, fun hn hk hr => ?_⟩
  · exact (if_neg (not_not_intro hn)).trans (if_pos hk)
  · exact (if_neg (not_not_intro hn)).trans ((if_neg (not_not_intro hk)).trans (if_pos hr))

/-- MPLACE's checks in order: the phase, then the range, then the count. -/
theorem exec_mplace_checks :
    (s.phase ≠ .func → exec .mplace s = .next (complete .mxPhase s)) ∧
    (s.phase = .func → ¬(s.lplSrc.toNat + s.lplCount.toNat ≤ 4096) → exec .mplace s = .next (complete .mxRange s)) ∧
    (s.phase = .func → s.lplSrc.toNat + s.lplCount.toNat ≤ 4096 → ¬(s.lplCount.toNat = s.mxDatamod.toNat / 8) →
      exec .mplace s = .next (complete .mxCount s)) := by
  refine ⟨fun hp => if_pos hp, fun hp hr => ?_, fun hp hr hc => ?_⟩
  · exact (if_neg (not_not_intro hp)).trans (if_pos hr)
  · exact (if_neg (not_not_intro hp)).trans ((if_neg (not_not_intro hr)).trans (if_pos hc))

/-- Settles O45: the tests of each command stand in the table's order. -/
theorem checksFollowThePriorityTable : Obligations.ChecksFollowThePriorityTable := by
  unfold Obligations.ChecksFollowThePriorityTable
  intro s
  obtain ⟨hphase, hrange, hcount⟩ := exec_mplace_checks (s := s)
  refine ⟨fun a => exec_gfdiv_zero a s, exec_gfinv_zero s, exec_gflog_zero s, fun n hn => exec_rsgen_of_not (by omega),
    fun k n hn => ?_, fun k n h1 h30 hk => ?_, fun k n h1 h30 hk1 hkn hr => ?_, fun v hv => exec_minit_of_not (by omega),
    hphase, fun hp hr => hrange hp (by omega), fun hp hr hc => hcount hp hr hc, fun hp => ⟨fun m => if_pos hp, fun m => if_pos hp,
    if_pos hp⟩, fun hp l => if_pos hp⟩
  · obtain ⟨hcheck, -, -⟩ := exec_rsenc_checks (s := s) k n
    exact hcheck (by omega)
  · obtain ⟨-, hcheck, -⟩ := exec_rsenc_checks (s := s) k n
    exact hcheck ⟨h1, h30⟩ (by omega)
  · obtain ⟨-, -, hcheck⟩ := exec_rsenc_checks (s := s) k n
    exact hcheck ⟨h1, h30⟩ ⟨hk1, hkn⟩ (by omega)

/-! ### CMD writes and the interrupt output -/

theorem writeCmd_of_idle (h : s.pend = false) (w : Word) : writeCmd w s = acceptCommand w s := if_neg (by simp [h])

theorem writeCmd_of_pend (h : s.pend = true) (w : Word) : writeCmd w s = setOvr s := if_pos h

/-- Settles O53: BUSY decides between acceptance and overrun. -/
theorem commandWritesAreAcceptedOrDropped : Obligations.CommandWritesAreAcceptedOrDropped := by
  unfold Obligations.CommandWritesAreAcceptedOrDropped
  intro w s
  rw [busAccess_write_cmd]
  exact ⟨fun h => writeCmd_of_idle h w, fun h => writeCmd_of_pend h w⟩

theorem busAccess_write_status (w : Word) (s : State) : busAccess (.write 0x00008#17 .four w) s = clearStatus w s :=
  busAccess_writeReg (r := .status) rfl rfl rfl

theorem writeCtrl_of_not_srst {w : Word} (h : w.getLsbD 1 = false) (s : State) :
    writeCtrl w s = { s with irqen := w.getLsbD 0 } := if_neg (by rw [h]; decide)

/-- Settles O48: IRQ is IRQEN and DONE, and a command leaves DONE = 1 and IRQEN as it was. -/
theorem interruptFollowsCompletion : Obligations.InterruptFollowsCompletion := by
  unfold Obligations.InterruptFollowsCompletion
  refine fun s => ⟨fun i t h => ?_, fun hp w => ?_, fun w hw => ⟨?_, ?_⟩, fun w hw => ?_⟩
  · obtain ⟨hirqen, -⟩ := (exec_effect h).hostSideKept
    obtain ⟨e, u, rfl⟩ := (exec_effect h).exists_complete
    rw [irq, complete_done, Bool.and_true, hirqen]
  · rw [busAccess_write_cmd, writeCmd_of_idle hp, irq, acceptCommand_done, Bool.and_false]
  · simp [busAccess_write_status, irq, clearStatus, hw]
  · rw [busAccess_write_ctrl, writeCtrl_of_srst hw]
    rfl
  · rw [busAccess_write_ctrl, writeCtrl_of_not_srst hw]
    rfl

end Sys2Proof.Machine
end

section
/-! SUPPORT. What a word read of a control register and a byte read of a window return, and what a write to the codeword RAM stores;
and the statements about the RAM, the control registers and the state after reset (O50, O54, O55). -/

namespace Sys2Proof.Machine

variable {s : State}

/-! ### The codeword RAM (R81, R87) -/

theorem not_rejected_cw {a : Nat} {n : Size} (hp : s.pend = false) (hlo : 0x1000 ≤ a) (hhi : a < 0x2000)
    (hal : a % sizeBytes n = 0) : ¬RejectedWrite a (sizeBytes n) s.pend ∧ ¬RejectedEither a (sizeBytes n) s.pend := by
  have heither : ¬RejectedEither a (sizeBytes n) s.pend := by
    rw [rejectedEither_window (r := .cw) ⟨hlo, hhi⟩ nofun nofun]
    simp [hal, hp]
  refine ⟨fun h => ?_, heither⟩
  rcases h with h | h | h | h
  · exact heither h
  all_goals omega

theorem busAccess_write_cw {a : BusAddr} {n : Size} (w : Word) (hp : s.pend = false) (hlo : 0x1000 ≤ a.toNat)
    (hhi : a.toNat < 0x2000) (hal : a.toNat % sizeBytes n = 0) :
    busAccess (.write a n w) s = { s with cw := Memory.writeBlock (a.toNat - 0x1000) (splitBytes n w) s.cw } := by
  have hwrite := busAccess_write_of_not_rejected (w := w) (not_rejected_cw hp hlo hhi hal).1
  rcases busWrite_register_cases hwrite with ⟨-, -, r, hr, -⟩ | ⟨-, -, h⟩
  · rw [(regAt_eq_none_iff a.toNat).mpr (by omega)] at hr
    cases hr
  · exact h

theorem splitBytes_getD {n : Size} {i : Nat} (h : i < sizeBytes n) (w : Word) :
    (splitBytes n w).getD i 0x00#8 = w.extractLsb' (8 * i) 8 := by
  simp [splitBytes, h]

/-- The bytes of a value, put together again, are its low bytes. -/
theorem toNat_joinBytes_extractLsb' (n : Size) (w : Word) {f : Nat → Byte} (h : ∀ i < sizeBytes n, f i = w.extractLsb' (8 * i) 8) :
    (joinBytes n f).toNat = w.toNat % 2 ^ (8 * sizeBytes n) := by
  refine Nat.eq_of_testBit_eq fun j => ?_
  have hj : 8 * (j / 8) + j % 8 = j := Nat.div_add_mod j 8
  have hbit := getLsbD_joinBytes n f (j / 8) (Nat.mod_lt j (by decide))
  rw [hj] at hbit
  rw [BitVec.testBit_toNat, hbit, Nat.testBit_mod_two_pow, BitVec.testBit_toNat, byteOfRead]
  by_cases hin : j / 8 < sizeBytes n
  · rw [if_pos hin, h _ hin, BitVec.getLsbD_extractLsb', hj]
    simp [Nat.mod_lt, show j < 8 * sizeBytes n by omega]
  · rw [if_neg hin]
    simp [show ¬j < 8 * sizeBytes n by omega]

/-- Settles O50: the access is one block write, and a read of the block puts its bytes together again. -/
theorem codewordRamWritesReadBack : Obligations.CodewordRamWritesReadBack := by
  unfold Obligations.CodewordRamWritesReadBack
  intro a n w s hp hlo hhi hal
  rw [busAccess_write_cw w hp hlo hhi hal]
  have hbyte : ∀ i < sizeBytes n,
      cwByte { s with cw := Memory.writeBlock (a.toNat - 0x1000) (splitBytes n w) s.cw } (a.toNat - 0x1000 + i) =
        w.extractLsb' (8 * i) 8 := fun i hi => by
    rw [cwByte_writeBlock, length_splitBytes, if_pos (by omega), Nat.add_sub_cancel_left, splitBytes_getD hi]
  refine ⟨hbyte, fun b hb => ?_, rfl, ?_⟩
  · rw [cwByte_writeBlock, length_splitBytes, if_neg hb]
  · generalize hu : ({ s with cw := Memory.writeBlock (a.toNat - 0x1000) (splitBytes n w) s.cw } : State) = u at hbyte ⊢
    have hpu : u.pend = false := by rw [← hu, ← hp]
    obtain ⟨v, hv, hread⟩ := busAccess_read_of_not_rejected (s := u) (not_rejected_cw hpu hlo hhi hal).2
    rw [hread, busRead_window (by omega) hv]
    refine toNat_joinBytes_extractLsb' n w fun i hi => ?_
    have hregion : regionOf (a.toNat + i) = .cw := regionOf_eq_of_inRegion ⟨by omega, ?_⟩
    · rw [← hbyte i hi, windowByte, hregion, Nat.sub_add_comm hlo]
    · have := add_sizeBytes_le (m := 0x800) hhi hal
      omega

/-! ### Reads of the control page (R34, R84) -/

theorem busAccess_read_register {k : Nat} {r : Reg} (hk : k < 32) (hr : allRegs[k]? = some r) (s : State) :
    busAccess (.read (BitVec.ofNat 17 (4 * k)) .four) s = { s with busData := readReg r s } := by
  have ha : (BitVec.ofNat 17 (4 * k)).toNat = 4 * k := Nat.mod_eq_of_lt (by omega)
  have hregion : regionOf (4 * k) = .control := regionOf_eq_of_inRegion (by simp only [InRegion]; omega)
  have hal : aligned (4 * k) .four = true := (aligned_iff _ _).mpr (Nat.mul_mod_right 4 k)
  have hreg : regAt (4 * k) = some r := by rwa [regAt, Nat.mul_div_cancel_left k (by decide)]
  simp [busAccess, ha, busRead, hal, hregion, hreg]

theorem flagAt_eq (k : Nat) (b : Bool) : flagAt k b = 2 ^ k * (BitVec.ofBool b).toNat := by cases b <;> simp [flagAt]

theorem toNat_ctrlWord (s : State) : (ctrlWord s).toNat = flagAt 0 s.irqen := by
  rw [ctrlWord, toNat_append_eq, flagAt_eq]
  simp

theorem toNat_phaseBits (p : Phase) : (phaseBits p).toNat = phaseNumber p := by cases p <;> rfl

theorem toNat_errByte (e : ErrCode) : (errByte e).toNat = errNumber e := by cases e <;> rfl

theorem toNat_statusWord (s : State) :
    (statusWord s).toNat =
      flagAt 0 s.pend + flagAt 1 s.done + flagAt 2 s.err + flagAt 3 s.ovr + flagAt 4 s.accerr + 2 ^ 8 * phaseNumber s.phase := by
  simp only [statusWord, toNat_append_eq, flagAt_eq, toNat_phaseBits, BitVec.toNat_zero]
  omega

theorem toNat_maskWord (s : State) : (maskWord s).toNat = s.mxMask.toNat + flagAt 8 s.mxMaskValid := by
  simp only [maskWord, toNat_append_eq, flagAt_eq, BitVec.toNat_zero]
  omega

theorem toNat_levelWord (s : State) : (levelWord s).toNat = s.mxLevel.toNat + flagAt 8 s.mxLevelValid := by
  simp only [levelWord, toNat_append_eq, flagAt_eq, BitVec.toNat_zero]
  omega

/-- What each register reads, as a number (R34 to R50). -/
theorem toNat_readReg : ∀ k < 32, ∃ r, allRegs[k]? = some r ∧ (readReg r s).toNat = registerValue s (4 * k) := by
  intro k hk
  refine ⟨allRegs[k], List.getElem?_eq_getElem _, ?_⟩
  have hsetWidth {w : Nat} (hw : w ≤ 32) (x : BitVec w) : (x.setWidth 32).toNat = x.toNat := BitVec.toNat_setWidth_of_le hw
  interval_cases k <;>
    simp [allRegs, readReg, registerValue, toNat_ctrlWord, toNat_statusWord, toNat_maskWord, toNat_levelWord, toNat_errByte,
      hsetWidth, Config.pId]

theorem toNat_busData_read_register {k : Nat} (hk : k < 32) (s : State) :
    (busAccess (.read (BitVec.ofNat 17 (4 * k)) .four) s).busData.toNat = registerValue s (4 * k) := by
  obtain ⟨r, hr, hv⟩ := toNat_readReg (s := s) k hk
  rw [busAccess_read_register hk hr, ← hv]

/-! ### Writes of the control page (R34, R41, R43) -/

theorem extractLsb'_zero_eq_setWidth (w : Word) : w.extractLsb' 0 12 = w.setWidth 12 := BitVec.eq_of_toNat_eq (by simp)

theorem busAccess_write_rsSrc (w : Word) (s : State) :
    busAccess (.write 0x00018#17 .four w) s = { s with rsSrc := w.setWidth 12 } := by
  rw [← extractLsb'_zero_eq_setWidth]
  exact busAccess_writeReg (r := .rsSrc) rfl rfl rfl

theorem busAccess_write_rsDst (w : Word) (s : State) :
    busAccess (.write 0x0001C#17 .four w) s = { s with rsDst := w.setWidth 12 } := by
  rw [← extractLsb'_zero_eq_setWidth]
  exact busAccess_writeReg (r := .rsDst) rfl rfl rfl

theorem busAccess_write_plSrc (w : Word) (s : State) :
    busAccess (.write 0x00024#17 .four w) s = { s with plSrc := w.setWidth 12 } := by
  rw [← extractLsb'_zero_eq_setWidth]
  exact busAccess_writeReg (r := .plSrc) rfl rfl rfl

theorem busAccess_write_plCount (w : Word) (s : State) :
    busAccess (.write 0x00028#17 .four w) s = { s with plCount := w.setWidth 12 } := by
  rw [← extractLsb'_zero_eq_setWidth]
  exact busAccess_writeReg (r := .plCount) rfl rfl rfl

/-- Settles O54: a read is the register's value, and each write is the write of one register. -/
theorem controlRegistersReadAndWriteAsLaidOut : Obligations.ControlRegistersReadAndWriteAsLaidOut := by
  unfold Obligations.ControlRegistersReadAndWriteAsLaidOut
  refine fun w s => ⟨fun k hk => toNat_busData_read_register hk s,
    fun hw => (busAccess_write_ctrl w s).trans (writeCtrl_of_not_srst hw s), busAccess_write_status w s,
    busAccess_write_rsSrc w s, busAccess_write_rsDst w s, busAccess_write_plSrc w s, busAccess_write_plCount w s, fun a ha => ?_⟩
  have hlow : (w.setWidth 12).toNat = w.toNat % 4096 := BitVec.toNat_setWidth 12 w
  simp only [List.mem_cons, List.not_mem_nil, or_false] at ha
  rcases ha with rfl | rfl | rfl | rfl
  · rw [busAccess_write_rsSrc]
    exact (toNat_busData_read_register (k := 6) (by decide) _).trans hlow
  · rw [busAccess_write_rsDst]
    exact (toNat_busData_read_register (k := 7) (by decide) _).trans hlow
  · rw [busAccess_write_plSrc]
    exact (toNat_busData_read_register (k := 9) (by decide) _).trans hlow
  · rw [busAccess_write_plCount]
    exact (toNat_busData_read_register (k := 10) (by decide) _).trans hlow

/-! ### The state after reset (R340) -/

theorem joinBytes_one (f : Nat → Byte) : joinBytes .one f = (f 0).setWidth 32 := by
  have hlt := (f 0).isLt
  refine BitVec.eq_of_toNat_eq ?_
  rw [joinBytes, toNat_append_eq, BitVec.toNat_setWidth_of_le (by decide)]
  simp

/-- A byte read of a window while idle. -/
theorem busAccess_read_byte {a : Nat} {r : Region} (hp : s.pend = false) (ha : InRegion r a) (hc : r ≠ .control)
    (hu : r ≠ .unmapped) (hwindow : 0x100 ≤ a) (hlt : a < 2 ^ 17) :
    busAccess (.read (BitVec.ofNat 17 a) .one) s = { s with busData := (windowByte s a).setWidth 32 } := by
  have hnat : (BitVec.ofNat 17 a).toNat = a := Nat.mod_eq_of_lt hlt
  have hnot : ¬RejectedEither (BitVec.ofNat 17 a).toNat (sizeBytes .one) s.pend := by
    rw [hnat, rejectedEither_window ha hc hu]
    simp [hp, sizeBytes, Nat.mod_one]
  obtain ⟨v, hv, hread⟩ := busAccess_read_of_not_rejected hnot
  rw [hnat] at hv
  rw [hread, busRead_window hwindow hv]
  rw [joinBytes_one, Nat.add_zero]

theorem readReg_reset :
    ∀ k < 32, ∃ r, allRegs[k]? = some r ∧ readReg r State.reset = if k = 0 then 0x51525345#32 else 0#32 := by
  intro k hk
  refine ⟨allRegs[k], List.getElem?_eq_getElem _, ?_⟩
  interval_cases k <;> rfl

theorem matrixByte_reset (r c : Nat) : matrixByte State.reset r c = 0x00#8 := if_pos (.inr (.inr rfl))

theorem step_hardReset {rest : List Input} (h : s.inputs = .hardReset :: rest) :
    step s = .next (hardReset (takeInput rest s)) := by
  simp only [step, h, inputStep]

/-- Settles O55: each read is looked up in the fixed reset state, and a hardware reset is that state with the outside world put back. -/
theorem resetLeavesTheTableOfValues : Obligations.ResetLeavesTheTableOfValues := by
  unfold Obligations.ResetLeavesTheTableOfValues
  refine ⟨fun i => ?_, fun j => ?_, fun j => ?_, rfl, rfl, rfl, rfl, rfl, rfl, rfl, fun s rest h => ?_⟩
  · obtain ⟨r, hr, hv⟩ := readReg_reset i.val i.isLt
    rw [busAccess_read_register i.isLt hr, hv]
  · have hj := j.isLt
    rw [busAccess_read_byte (r := .gen) rfl (by simp only [InRegion]; omega) nofun nofun (by omega) (by omega), windowByte_gen hj,
      show State.reset.gen = genOne from rfl, genAt_genOne]
    split <;> rfl
  · have hj := j.isLt
    have hcell : 0x10000 + j.val = 0x10000 + 256 * (j.val / 256) + j.val % 256 := by omega
    rw [busAccess_read_byte (r := .matrix) rfl (by simp only [InRegion]; omega) nofun nofun (by omega) (by omega), hcell,
      windowByte_matrix (Nat.mod_lt _ (by decide)), matrixByte_reset]
    rfl
  · exact ⟨_, step_hardReset h, rfl, rfl⟩

end Sys2Proof.Machine
end
